-- ==== Sys2Proof/Word.lean ====
section
/-! DEFINITION. The widths of the machine's values: 8-bit bytes and registers, 16-bit addresses, 13-bit
addresses of the PPU pattern space (00_scope.md R6, 20_memory.md R50). -/

namespace Sys2Proof

/-- An 8-bit value: a register A, X, Y, SP, P or one byte of any store (XLEN, R6; R50). -/
abbrev Byte := BitVec 8

/-- A 16-bit value: the program counter or a CPU bus address (ALEN, R6). -/
abbrev Word := BitVec 16

/-- An address of the PPU pattern space, 0x0000 to 0x1FFF (R50 b). -/
abbrev PpuAddr := BitVec 13

end Sys2Proof
end

