-- ==== Sys2Proof/Machine/Bits.lean ====
section
/-! DEFINITION. Bytes and words: halves, pairs, pages and extensions (00_scope.md R7), and the one place that fixes the
byte order of a pair (20_memory.md R63). -/

namespace Sys2Proof

/-- lo(w) = w[7:0] (R7). -/
def lo (w : Word) : Byte := w.setWidth 8

/-- hi(w) = w[15:8] (R7). -/
def hi (w : Word) : Byte := (w >>> 8).setWidth 8

/-- The concatenation of a high and a low byte (R7); a pair in memory has its low byte at the lower address (R63). -/
def wordOf (h l : Byte) : Word := h ++ l

/-- page(w) = w with its low byte cleared (R7). -/
def page (w : Word) : Word := w &&& 0xFF00

/-- zext_16(v) (R7). -/
def zext16 (v : Byte) : Word := v.setWidth 16

/-- sext_16(v) (R7). -/
def sext16 (v : Byte) : Word := v.signExtend 16

end Sys2Proof
end

