-- ==== Sys2Proof/Machine/Flags.lean ====
section
/-! DEFINITION. The status register's fields (10_state.md R24) and every flag computation: SetNZ (40 R177), the adder
(42 R220), the comparison (R221), BIT (R227), the four shift cores (43 R241 to R244), and the copies of P that are
pushed and pulled (45 R272, R273, 60 R334). All are functions of bytes, P among them. -/

namespace Sys2Proof.Machine

/-- The fields of P (R24). -/
inductive Flag where
  | C | Z | I | D | B | U | V | N
deriving DecidableEq, Repr

/-- The bit a field stands at (R24). -/
def Flag.index : Flag → Nat
  | .C => 0 | .Z => 1 | .I => 2 | .D => 3 | .B => 4 | .U => 5 | .V => 6 | .N => 7

/-- The value of a field of P. -/
def getFlag (f : Flag) (p : Byte) : Bool := p.getLsbD f.index

/-- P with one field written and the others left (00_scope.md R8). -/
def setFlag (f : Flag) (b : Bool) (p : Byte) : Byte :=
  if b then p ||| ((1 : Byte) <<< f.index) else p &&& ~~~((1 : Byte) <<< f.index)

/-- SetNZ(v) (40 R177). -/
def setNZ (v p : Byte) : Byte :=
  setFlag .N (v.getLsbD 7) (setFlag .Z (decide (v = 0x00)) p)

/-- A Boolean as a byte, 0 or 1: the carry as a term of a sum. -/
def bitByte (b : Bool) : Byte := if b then 1 else 0

/-- adc_core (R220): the new A and the new P from A, M and P. P's Decimal field is not read (R238). -/
def adcCore (a m p : Byte) : Byte × Byte :=
  let t := a.toNat + m.toNat + (getFlag .C p).toNat
  let r := BitVec.ofNat 8 t
  let v := (~~~(a ^^^ m) &&& (a ^^^ r)).getLsbD 7
  (r, setNZ r (setFlag .V v (setFlag .C (decide (t > 0xFF)) p)))

/-- SBC's core: adc_core of the one's complement (R223). -/
def sbcCore (a m p : Byte) : Byte × Byte := adcCore a (m ^^^ 0xFF) p

/-- AND's result and flags (R224). -/
def andCore (a m p : Byte) : Byte × Byte := (a &&& m, setNZ (a &&& m) p)

/-- ORA's result and flags (R225). -/
def oraCore (a m p : Byte) : Byte × Byte := (a ||| m, setNZ (a ||| m) p)

/-- EOR's result and flags (R226). -/
def eorCore (a m p : Byte) : Byte × Byte := (a ^^^ m, setNZ (a ^^^ m) p)

/-- cmp_core (R221): the new P from a register, M and P. -/
def cmpCore (r m p : Byte) : Byte := setNZ (r - m) (setFlag .C (decide (m ≤ r)) p)

/-- The flags of BIT (R227). -/
def bitFlags (a m p : Byte) : Byte :=
  setFlag .V (m.getLsbD 6) (setFlag .N (m.getLsbD 7) (setFlag .Z (decide (a &&& m = 0)) p))

/-- asl_core (R241): the result and P with its Carry. -/
def aslCore (v p : Byte) : Byte × Byte := (v <<< 1, setFlag .C (v.getLsbD 7) p)

/-- lsr_core (R242). -/
def lsrCore (v p : Byte) : Byte × Byte := (v >>> 1, setFlag .C (v.getLsbD 0) p)

/-- rol_core (R243): the old Carry enters at bit 0. -/
def rolCore (v p : Byte) : Byte × Byte :=
  ((v <<< 1) ||| bitByte (getFlag .C p), setFlag .C (v.getLsbD 7) p)

/-- ror_core (R244): the old Carry enters at bit 7. -/
def rorCore (v p : Byte) : Byte × Byte :=
  ((v >>> 1) ||| (bitByte (getFlag .C p) <<< 7), setFlag .C (v.getLsbD 0) p)

/-- A shift core followed by SetNZ of its result, as shift_op does (R240). -/
def withNZ (f : Byte → Byte → Byte × Byte) (v p : Byte) : Byte × Byte :=
  ((f v p).1, setNZ (f v p).1 (f v p).2)

/-- INC's result and flags (R231). -/
def incCore (v p : Byte) : Byte × Byte := (v + 1, setNZ (v + 1) p)

/-- DEC's result and flags (R232). -/
def decCore (v p : Byte) : Byte × Byte := (v - 1, setNZ (v - 1) p)

/-- The copy of P that PHP pushes: Break and bit 5 both set (R272). -/
def phpByte (p : Byte) : Byte := p ||| 0x30

/-- The P that PLP and RTI make of a pulled byte: Break cleared, bit 5 set (R273, R283). -/
def pulledP (t : Byte) : Byte := (t &&& 0xEF) ||| 0x20

/-- The copy of P that NMI entry pushes: Break cleared, bit 5 set (60 R334). -/
def nmiByte (p : Byte) : Byte := (p &&& 0xEF) ||| 0x20

end Sys2Proof.Machine
end

