-- ==== Sys2Proof/Config.lean ====
section
/-! DEFINITION. What the environment decides and the spec leaves open: the free values of the model. Each is a constant
with no body, so nothing can be proved of its value, and a statement about it holds for every value. A counter in State
(draws) is the argument that makes each draw a fresh value. -/

namespace Sys2Proof

/-- What the environment does inside one Tick (20_memory.md R60, R61): it may raise nmi_pending (never clear it), it
leaves irq_pending at a level of its own, and it calls read_chr at any number of pattern addresses, in order. -/
structure TickInput where
  raiseNmi : Bool
  irqLevel : Bool
  chrReads : List PpuAddr
deriving DecidableEq, Repr, Inhabited

/-- The byte the environment answers a DevRead with, when no answer is stated: any value (R58, 93 U8). -/
opaque Config.devAnswer : Nat → Byte

/-- What the environment does in a Tick, when nothing is stated: anything R60 allows (93 U11). -/
opaque Config.tickInput : Nat → TickInput

/-- The byte a CHR RAM holds at an offset when the PPU reads it: any value (R92, 93 U18). The first two arguments are
the reads and the acts of the environment so far, since the environment may store between any two. -/
opaque Config.chrRamByte : Nat → Nat → Nat → Byte

end Sys2Proof
end

