-- ==== Sys2Proof/Machine/Params.lean ====
section
/-! DEFINITION. The implementation parameters of 00_scope.md R6 that the spec gives a value. The parameters it leaves
OPEN are not here: the cartridge stands in State, the environment's answers in State and Config. -/

namespace Sys2Proof.Params

/-- BRK_PUSH_STYLE (R6): what BRK and IRQ entry push as the status byte (92 D10). -/
inductive BrkPushStyle where
  /-- P unmodified, Break set in P afterwards. -/
  | asDocumented
  /-- Break (BRK) or its absence (IRQ) forced in the pushed copy, with bit 5 set; P's own Break left alone. -/
  | hardware
deriving DecidableEq, Repr

/-- BRK_PUSH_STYLE = as_documented (R6, R282, R336). -/
def brkPushStyle : BrkPushStyle := .asDocumented

/-- OPTAB_PRESENT(b): true for all 256 values (R6, R127). -/
def optabPresent (_ : Byte) : Bool := true

/-- STACK_BASE (R6, R68). -/
def stackBase : Word := 0x0100

/-- NMI_VECTOR (R6, R68). -/
def nmiVector : Word := 0xFFFA

/-- RESET_VECTOR (R6, R68). -/
def resetVector : Word := 0xFFFC

/-- IRQ_VECTOR, BRK's too (R6, R68). -/
def irqVector : Word := 0xFFFE

/-- RESET_A (R6, R36). -/
def resetA : Byte := 0x00

/-- RESET_X (R6, R36). -/
def resetX : Byte := 0x00

/-- RESET_Y (R6, R36). -/
def resetY : Byte := 0x00

/-- RESET_SP (R6, R36). -/
def resetSp : Byte := 0xFD

/-- RESET_P: I = 1, bit 5 = 1 (R6, R36). -/
def resetP : Byte := 0x24

/-- NMI_ENTRY_TICKS (R6, R334). -/
def nmiEntryTicks : Nat := 2

/-- IRQ_ENTRY_TICKS (R6, R336). -/
def irqEntryTicks : Nat := 2

/-- IRQ_SETS_I, for IRQ entry and BRK (R6, R336, R282). -/
def irqSetsI : Bool := true

/-- RESET_TICKS (R6, R360). -/
def resetTicks : Nat := 0

/-- PPU_CLOCK_RATIO (R6): PPU cycles per CPU cycle. Only the external PPU uses it. -/
def ppuClockRatio : Nat := 3

end Sys2Proof.Params
end

