-- ==== Sys2Proof/Syntax.lean ====
section
/-! DEFINITION. The instruction set: one constructor for each of the 256 rows of the opcode table
(30_encoding.md R128, R131, R132; opcode_table.json), carrying exactly the operand its row's format has (R121 to R124).
A name is the row's mnemonic and mode; rows that share both carry their opcode byte as well. -/

namespace Sys2Proof

/-- One instruction of the opcode table, decoded: an immediate, zero-page or displacement byte, or a 16-bit
address, as the row's format has it. No step reads the operand of an unsupported row, and its constructor may be written
without one, which stands for 0; the decoder gives it the bytes it reads. -/
inductive Instr where
  -- format F2: one operand byte (R122)
  | oraIndX (operand : Byte) -- 01: ORA (zp,X) (R225)
  | sloIndX (operand : Byte) -- 03: SLO (zp,X) (R295)
  | nopZp04 (operand : Byte) -- 04: NOP zp (R299)
  | oraZp (operand : Byte) -- 05: ORA zp (R225)
  | aslZp (operand : Byte) -- 06: ASL zp (R241)
  | sloZp (operand : Byte) -- 07: SLO zp (R295)
  | oraImm (operand : Byte) -- 09: ORA # (R225)
  | ancImm0B (operand : Byte := 0) -- 0B: ANC # (R311)
  | bpl (operand : Byte) -- 10: BPL rel (R256)
  | oraIndY (operand : Byte) -- 11: ORA (zp),Y (R225)
  | sloIndY (operand : Byte) -- 13: SLO (zp),Y (R295)
  | nopZpX14 (operand : Byte) -- 14: NOP zp,X (R299)
  | oraZpX (operand : Byte) -- 15: ORA zp,X (R225)
  | aslZpX (operand : Byte) -- 16: ASL zp,X (R241)
  | sloZpX (operand : Byte) -- 17: SLO zp,X (R295)
  | andIndX (operand : Byte) -- 21: AND (zp,X) (R224)
  | rlaIndX (operand : Byte) -- 23: RLA (zp,X) (R296)
  | bitZp (operand : Byte) -- 24: BIT zp (R227)
  | andZp (operand : Byte) -- 25: AND zp (R224)
  | rolZp (operand : Byte) -- 26: ROL zp (R243)
  | rlaZp (operand : Byte) -- 27: RLA zp (R296)
  | andImm (operand : Byte) -- 29: AND # (R224)
  | ancImm2B (operand : Byte := 0) -- 2B: ANC # (R311)
  | bmi (operand : Byte) -- 30: BMI rel (R255)
  | andIndY (operand : Byte) -- 31: AND (zp),Y (R224)
  | rlaIndY (operand : Byte) -- 33: RLA (zp),Y (R296)
  | nopZpX34 (operand : Byte) -- 34: NOP zp,X (R299)
  | andZpX (operand : Byte) -- 35: AND zp,X (R224)
  | rolZpX (operand : Byte) -- 36: ROL zp,X (R243)
  | rlaZpX (operand : Byte) -- 37: RLA zp,X (R296)
  | eorIndX (operand : Byte) -- 41: EOR (zp,X) (R226)
  | sreIndX (operand : Byte) -- 43: SRE (zp,X) (R297)
  | nopZp44 (operand : Byte) -- 44: NOP zp (R299)
  | eorZp (operand : Byte) -- 45: EOR zp (R226)
  | lsrZp (operand : Byte) -- 46: LSR zp (R242)
  | sreZp (operand : Byte) -- 47: SRE zp (R297)
  | eorImm (operand : Byte) -- 49: EOR # (R226)
  | asrImm (operand : Byte := 0) -- 4B: ASR # (R313)
  | bvc (operand : Byte) -- 50: BVC rel (R257)
  | eorIndY (operand : Byte) -- 51: EOR (zp),Y (R226)
  | sreIndY (operand : Byte) -- 53: SRE (zp),Y (R297)
  | nopZpX54 (operand : Byte) -- 54: NOP zp,X (R299)
  | eorZpX (operand : Byte) -- 55: EOR zp,X (R226)
  | lsrZpX (operand : Byte) -- 56: LSR zp,X (R242)
  | sreZpX (operand : Byte) -- 57: SRE zp,X (R297)
  | adcIndX (operand : Byte) -- 61: ADC (zp,X) (R222)
  | rraIndX (operand : Byte) -- 63: RRA (zp,X) (R298)
  | nopZp64 (operand : Byte) -- 64: NOP zp (R299)
  | adcZp (operand : Byte) -- 65: ADC zp (R222)
  | rorZp (operand : Byte) -- 66: ROR zp (R244)
  | rraZp (operand : Byte) -- 67: RRA zp (R298)
  | adcImm (operand : Byte) -- 69: ADC # (R222)
  | arrImm (operand : Byte := 0) -- 6B: ARR # (R312)
  | bvs (operand : Byte) -- 70: BVS rel (R258)
  | adcIndY (operand : Byte) -- 71: ADC (zp),Y (R222)
  | rraIndY (operand : Byte) -- 73: RRA (zp),Y (R298)
  | nopZpX74 (operand : Byte) -- 74: NOP zp,X (R299)
  | adcZpX (operand : Byte) -- 75: ADC zp,X (R222)
  | rorZpX (operand : Byte) -- 76: ROR zp,X (R244)
  | rraZpX (operand : Byte) -- 77: RRA zp,X (R298)
  | nopImm80 (operand : Byte) -- 80: NOP # (R299)
  | staIndX (operand : Byte) -- 81: STA (zp,X) (R203)
  | nopImm82 (operand : Byte) -- 82: NOP # (R299)
  | saxIndX (operand : Byte) -- 83: SAX (zp,X) (R292)
  | styZp (operand : Byte) -- 84: STY zp (R205)
  | staZp (operand : Byte) -- 85: STA zp (R203)
  | stxZp (operand : Byte) -- 86: STX zp (R204)
  | saxZp (operand : Byte) -- 87: SAX zp (R292)
  | nopImm89 (operand : Byte) -- 89: NOP # (R299)
  | aneImm (operand : Byte := 0) -- 8B: ANE # (R320)
  | bcc (operand : Byte) -- 90: BCC rel (R251)
  | staIndY (operand : Byte) -- 91: STA (zp),Y (R203)
  | shaIndY (operand : Byte := 0) -- 93: SHA (zp),Y (R315)
  | styZpX (operand : Byte) -- 94: STY zp,X (R205)
  | staZpX (operand : Byte) -- 95: STA zp,X (R203)
  | stxZpY (operand : Byte) -- 96: STX zp,Y (R204)
  | saxZpY (operand : Byte) -- 97: SAX zp,Y (R292)
  | ldyImm (operand : Byte) -- A0: LDY # (R202)
  | ldaIndX (operand : Byte) -- A1: LDA (zp,X) (R200)
  | ldxImm (operand : Byte) -- A2: LDX # (R201)
  | laxIndX (operand : Byte) -- A3: LAX (zp,X) (R291)
  | ldyZp (operand : Byte) -- A4: LDY zp (R202)
  | ldaZp (operand : Byte) -- A5: LDA zp (R200)
  | ldxZp (operand : Byte) -- A6: LDX zp (R201)
  | laxZp (operand : Byte) -- A7: LAX zp (R291)
  | ldaImm (operand : Byte) -- A9: LDA # (R200)
  | lxaImm (operand : Byte := 0) -- AB: LXA # (R314)
  | bcs (operand : Byte) -- B0: BCS rel (R252)
  | ldaIndY (operand : Byte) -- B1: LDA (zp),Y (R200)
  | laxIndY (operand : Byte) -- B3: LAX (zp),Y (R291)
  | ldyZpX (operand : Byte) -- B4: LDY zp,X (R202)
  | ldaZpX (operand : Byte) -- B5: LDA zp,X (R200)
  | ldxZpY (operand : Byte) -- B6: LDX zp,Y (R201)
  | laxZpY (operand : Byte) -- B7: LAX zp,Y (R291)
  | cpyImm (operand : Byte) -- C0: CPY # (R230)
  | cmpIndX (operand : Byte) -- C1: CMP (zp,X) (R228)
  | nopImmC2 (operand : Byte) -- C2: NOP # (R299)
  | dcpIndX (operand : Byte) -- C3: DCP (zp,X) (R293)
  | cpyZp (operand : Byte) -- C4: CPY zp (R230)
  | cmpZp (operand : Byte) -- C5: CMP zp (R228)
  | decZp (operand : Byte) -- C6: DEC zp (R232)
  | dcpZp (operand : Byte) -- C7: DCP zp (R293)
  | cmpImm (operand : Byte) -- C9: CMP # (R228)
  | sbxImm (operand : Byte := 0) -- CB: SBX # (R316)
  | bne (operand : Byte) -- D0: BNE rel (R254)
  | cmpIndY (operand : Byte) -- D1: CMP (zp),Y (R228)
  | dcpIndY (operand : Byte) -- D3: DCP (zp),Y (R293)
  | nopZpXD4 (operand : Byte) -- D4: NOP zp,X (R299)
  | cmpZpX (operand : Byte) -- D5: CMP zp,X (R228)
  | decZpX (operand : Byte) -- D6: DEC zp,X (R232)
  | dcpZpX (operand : Byte) -- D7: DCP zp,X (R293)
  | cpxImm (operand : Byte) -- E0: CPX # (R229)
  | sbcIndX (operand : Byte) -- E1: SBC (zp,X) (R223)
  | nopImmE2 (operand : Byte) -- E2: NOP # (R299)
  | isbIndX (operand : Byte) -- E3: ISB (zp,X) (R294)
  | cpxZp (operand : Byte) -- E4: CPX zp (R229)
  | sbcZp (operand : Byte) -- E5: SBC zp (R223)
  | incZp (operand : Byte) -- E6: INC zp (R231)
  | isbZp (operand : Byte) -- E7: ISB zp (R294)
  | sbcImm (operand : Byte) -- E9: SBC # (R223)
  | sbcImmEB (operand : Byte) -- EB: SBC # (R300)
  | beq (operand : Byte) -- F0: BEQ rel (R253)
  | sbcIndY (operand : Byte) -- F1: SBC (zp),Y (R223)
  | isbIndY (operand : Byte) -- F3: ISB (zp),Y (R294)
  | nopZpXF4 (operand : Byte) -- F4: NOP zp,X (R299)
  | sbcZpX (operand : Byte) -- F5: SBC zp,X (R223)
  | incZpX (operand : Byte) -- F6: INC zp,X (R231)
  | isbZpX (operand : Byte) -- F7: ISB zp,X (R294)
  -- format F3: a 16-bit operand (R123)
  | nopAbs (operand : Word) -- 0C: NOP abs (R299)
  | oraAbs (operand : Word) -- 0D: ORA abs (R225)
  | aslAbs (operand : Word) -- 0E: ASL abs (R241)
  | sloAbs (operand : Word) -- 0F: SLO abs (R295)
  | oraAbsY (operand : Word) -- 19: ORA abs,Y (R225)
  | sloAbsY (operand : Word) -- 1B: SLO abs,Y (R295)
  | nopAbsX1C (operand : Word) -- 1C: NOP abs,X (R299)
  | oraAbsX (operand : Word) -- 1D: ORA abs,X (R225)
  | aslAbsX (operand : Word) -- 1E: ASL abs,X (R241)
  | sloAbsX (operand : Word) -- 1F: SLO abs,X (R295)
  | jsr (operand : Word) -- 20: JSR abs (R260)
  | bitAbs (operand : Word) -- 2C: BIT abs (R227)
  | andAbs (operand : Word) -- 2D: AND abs (R224)
  | rolAbs (operand : Word) -- 2E: ROL abs (R243)
  | rlaAbs (operand : Word) -- 2F: RLA abs (R296)
  | andAbsY (operand : Word) -- 39: AND abs,Y (R224)
  | rlaAbsY (operand : Word) -- 3B: RLA abs,Y (R296)
  | nopAbsX3C (operand : Word) -- 3C: NOP abs,X (R299)
  | andAbsX (operand : Word) -- 3D: AND abs,X (R224)
  | rolAbsX (operand : Word) -- 3E: ROL abs,X (R243)
  | rlaAbsX (operand : Word) -- 3F: RLA abs,X (R296)
  | jmpAbs (operand : Word) -- 4C: JMP abs (R259)
  | eorAbs (operand : Word) -- 4D: EOR abs (R226)
  | lsrAbs (operand : Word) -- 4E: LSR abs (R242)
  | sreAbs (operand : Word) -- 4F: SRE abs (R297)
  | eorAbsY (operand : Word) -- 59: EOR abs,Y (R226)
  | sreAbsY (operand : Word) -- 5B: SRE abs,Y (R297)
  | nopAbsX5C (operand : Word) -- 5C: NOP abs,X (R299)
  | eorAbsX (operand : Word) -- 5D: EOR abs,X (R226)
  | lsrAbsX (operand : Word) -- 5E: LSR abs,X (R242)
  | sreAbsX (operand : Word) -- 5F: SRE abs,X (R297)
  | jmpInd (operand : Word) -- 6C: JMP (abs) (R259)
  | adcAbs (operand : Word) -- 6D: ADC abs (R222)
  | rorAbs (operand : Word) -- 6E: ROR abs (R244)
  | rraAbs (operand : Word) -- 6F: RRA abs (R298)
  | adcAbsY (operand : Word) -- 79: ADC abs,Y (R222)
  | rraAbsY (operand : Word) -- 7B: RRA abs,Y (R298)
  | nopAbsX7C (operand : Word) -- 7C: NOP abs,X (R299)
  | adcAbsX (operand : Word) -- 7D: ADC abs,X (R222)
  | rorAbsX (operand : Word) -- 7E: ROR abs,X (R244)
  | rraAbsX (operand : Word) -- 7F: RRA abs,X (R298)
  | styAbs (operand : Word) -- 8C: STY abs (R205)
  | staAbs (operand : Word) -- 8D: STA abs (R203)
  | stxAbs (operand : Word) -- 8E: STX abs (R204)
  | saxAbs (operand : Word) -- 8F: SAX abs (R292)
  | staAbsY (operand : Word) -- 99: STA abs,Y (R203)
  | shsAbsY (operand : Word := 0) -- 9B: SHS abs,Y (R321)
  | shyAbsX (operand : Word := 0) -- 9C: SHY abs,X (R319)
  | staAbsX (operand : Word) -- 9D: STA abs,X (R203)
  | shxAbsY (operand : Word := 0) -- 9E: SHX abs,Y (R318)
  | shaAbsY (operand : Word := 0) -- 9F: SHA abs,Y (R315)
  | ldyAbs (operand : Word) -- AC: LDY abs (R202)
  | ldaAbs (operand : Word) -- AD: LDA abs (R200)
  | ldxAbs (operand : Word) -- AE: LDX abs (R201)
  | laxAbs (operand : Word) -- AF: LAX abs (R291)
  | ldaAbsY (operand : Word) -- B9: LDA abs,Y (R200)
  | laeAbsY (operand : Word := 0) -- BB: LAE abs,Y (R317)
  | ldyAbsX (operand : Word) -- BC: LDY abs,X (R202)
  | ldaAbsX (operand : Word) -- BD: LDA abs,X (R200)
  | ldxAbsY (operand : Word) -- BE: LDX abs,Y (R201)
  | laxAbsY (operand : Word) -- BF: LAX abs,Y (R291)
  | cpyAbs (operand : Word) -- CC: CPY abs (R230)
  | cmpAbs (operand : Word) -- CD: CMP abs (R228)
  | decAbs (operand : Word) -- CE: DEC abs (R232)
  | dcpAbs (operand : Word) -- CF: DCP abs (R293)
  | cmpAbsY (operand : Word) -- D9: CMP abs,Y (R228)
  | dcpAbsY (operand : Word) -- DB: DCP abs,Y (R293)
  | nopAbsXDC (operand : Word) -- DC: NOP abs,X (R299)
  | cmpAbsX (operand : Word) -- DD: CMP abs,X (R228)
  | decAbsX (operand : Word) -- DE: DEC abs,X (R232)
  | dcpAbsX (operand : Word) -- DF: DCP abs,X (R293)
  | cpxAbs (operand : Word) -- EC: CPX abs (R229)
  | sbcAbs (operand : Word) -- ED: SBC abs (R223)
  | incAbs (operand : Word) -- EE: INC abs (R231)
  | isbAbs (operand : Word) -- EF: ISB abs (R294)
  | sbcAbsY (operand : Word) -- F9: SBC abs,Y (R223)
  | isbAbsY (operand : Word) -- FB: ISB abs,Y (R294)
  | nopAbsXFC (operand : Word) -- FC: NOP abs,X (R299)
  | sbcAbsX (operand : Word) -- FD: SBC abs,X (R223)
  | incAbsX (operand : Word) -- FE: INC abs,X (R231)
  | isbAbsX (operand : Word) -- FF: ISB abs,X (R294)
  -- format F1: no operand (R121)
  | brk -- 00: BRK (R282)
  | jam02 -- 02: JAM (R322)
  | php -- 08: PHP (R272)
  | aslA -- 0A: ASL A (R241)
  | jam12 -- 12: JAM (R322)
  | clc -- 18: CLC (R274)
  | nop1A -- 1A: NOP (R299)
  | jam22 -- 22: JAM (R322)
  | plp -- 28: PLP (R273)
  | rolA -- 2A: ROL A (R243)
  | jam32 -- 32: JAM (R322)
  | sec -- 38: SEC (R275)
  | nop3A -- 3A: NOP (R299)
  | rti -- 40: RTI (R283)
  | jam42 -- 42: JAM (R322)
  | pha -- 48: PHA (R270)
  | lsrA -- 4A: LSR A (R242)
  | jam52 -- 52: JAM (R322)
  | cli -- 58: CLI (R276)
  | nop5A -- 5A: NOP (R299)
  | rts -- 60: RTS (R261)
  | jam62 -- 62: JAM (R322)
  | pla -- 68: PLA (R271)
  | rorA -- 6A: ROR A (R244)
  | jam72 -- 72: JAM (R322)
  | sei -- 78: SEI (R277)
  | nop7A -- 7A: NOP (R299)
  | dey -- 88: DEY (R236)
  | txa -- 8A: TXA (R208)
  | jam92 -- 92: JAM (R322)
  | tya -- 98: TYA (R209)
  | txs -- 9A: TXS (R211)
  | tay -- A8: TAY (R207)
  | tax -- AA: TAX (R206)
  | jamB2 -- B2: JAM (R322)
  | clv -- B8: CLV (R280)
  | tsx -- BA: TSX (R210)
  | iny -- C8: INY (R234)
  | dex -- CA: DEX (R235)
  | jamD2 -- D2: JAM (R322)
  | cld -- D8: CLD (R278)
  | nopDA -- DA: NOP (R299)
  | inx -- E8: INX (R233)
  | nop -- EA: NOP (R281)
  | jamF2 -- F2: JAM (R322)
  | sed -- F8: SED (R279)
  | nopFA -- FA: NOP (R299)
deriving DecidableEq, Repr

end Sys2Proof
end

