-- ==== Sys2Proof/WellFormed.lean ====
section
/-! DEFINITION. The opcode descriptor (30_encoding.md R126) and the checks that make one well formed: the document's
self-consistency of length and addressing mode (R120, R124), and the places the penalty classes may stand (40 R157).
Every term of Instr carries operands of exactly its format's widths, so what can be ill formed is a descriptor, or a
string of bytes offered as a row's encoding; Instr.wf in Decode.lean holds an instruction's own row and bytes against
these checks. -/

namespace Sys2Proof

/-- The mnemonics of the opcode table (R128). -/
inductive Mnemonic where
  | ADC | ANC | AND | ANE | ARR | ASL | ASR | BCC | BCS | BEQ | BIT | BMI | BNE | BPL
  | BRK | BVC | BVS | CLC | CLD | CLI | CLV | CMP | CPX | CPY | DCP | DEC | DEX | DEY
  | EOR | INC | INX | INY | ISB | JAM | JMP | JSR | LAE | LAX | LDA | LDX | LDY | LSR
  | LXA | NOP | ORA | PHA | PHP | PLA | PLP | RLA | ROL | ROR | RRA | RTI | RTS | SAX
  | SBC | SBX | SEC | SED | SEI | SHA | SHS | SHX | SHY | SLO | SRE | STA | STX | STY
  | TAX | TAY | TSX | TXA | TXS | TYA
deriving DecidableEq, Repr

/-- The addressing-mode tag set, closed (R124). -/
inductive Mode where
  | accumulator | immediate | zeroPage | zeroPageX | zeroPageY | absolute | absoluteX | absoluteY
  | indirect | indirectX | indirectY | relative | implied | noneAddressing
deriving DecidableEq, Repr

/-- The penalty class of a descriptor (R126, 40 R157). -/
inductive Penalty where
  | none | page | branch
deriving DecidableEq, Repr

/-- The length a mode's format has, in bytes (R124). NoneAddressing has no format: no row uses it. -/
def Mode.length : Mode → Nat
  | .implied | .accumulator => 1
  | .immediate | .zeroPage | .zeroPageX | .zeroPageY | .relative | .indirectX | .indirectY => 2
  | .absolute | .absoluteX | .absoluteY | .indirect => 3
  | .noneAddressing => 0

/-- The opcode descriptor (R126). -/
structure Descriptor where
  code     : Byte
  mnemonic : Mnemonic
  length   : Nat
  cycles   : Nat
  penalty  : Penalty
  mode     : Mode
deriving DecidableEq, Repr

/-- The set UNSUPPORTED of R6: the mnemonics whose execution raises UnsupportedInstruction (R132). -/
def Mnemonic.unsupported : Mnemonic → Bool
  | .ANC | .ANE | .ARR | .ASR | .JAM | .LAE | .LXA | .SBX | .SHA | .SHS | .SHX | .SHY => true
  | .ADC | .AND | .ASL | .BCC | .BCS | .BEQ | .BIT | .BMI | .BNE | .BPL | .BRK | .BVC
  | .BVS | .CLC | .CLD | .CLI | .CLV | .CMP | .CPX | .CPY | .DCP | .DEC | .DEX | .DEY
  | .EOR | .INC | .INX | .INY | .ISB | .JMP | .JSR | .LAX | .LDA | .LDX | .LDY | .LSR
  | .NOP | .ORA | .PHA | .PHP | .PLA | .PLP | .RLA | .ROL | .ROR | .RRA | .RTI | .RTS
  | .SAX | .SBC | .SEC | .SED | .SEI | .SLO | .SRE | .STA | .STX | .STY | .TAX | .TAY
  | .TSX | .TXA | .TXS | .TYA => false

/-- The modes whose resolution can charge a page cross (40 R166, R167, R170). -/
def Mode.crosses : Mode → Bool
  | .absoluteX | .absoluteY | .indirectY => true
  | .accumulator | .immediate | .zeroPage | .zeroPageX | .zeroPageY | .absolute | .indirect | .indirectX
  | .relative | .implied | .noneAddressing => false

/-- A descriptor is self-consistent: no row uses NoneAddressing, the length is its mode's (R120, R124), class Branch
stands exactly at the Relative rows, and class Page only where an index is added to a 16-bit base (R157). -/
def Descriptor.wf (d : Descriptor) : Bool :=
  decide (d.mode ≠ .noneAddressing) &&
  decide (d.length = d.mode.length) &&
  decide (d.penalty = .branch ↔ d.mode = .relative) &&
  (decide (d.penalty ≠ .page) || d.mode.crosses)

/-- A string of bytes is the encoding of an instruction of the descriptor's row: it begins with the opcode byte and
holds as many bytes as the row's length (R120). -/
def Descriptor.fits (d : Descriptor) (bytes : List Byte) : Bool :=
  decide (bytes.head? = some d.code) &&
  decide (bytes.length = d.length)

end Sys2Proof
end

