-- ==== Sys2Proof/Machine/State.lean ====
section
/-! DEFINITION. The state of the machine, plain data: the registers and machine status (10_state.md R20 to R32), the bus
(R33), the mapper bank (R34), the cartridge the loader supplied (R35, 00_scope.md R6), and the model's own record of the
environment (stated answers, event history). State.reset is the machine after power-on and reset (R36, 70 R360). -/

namespace Sys2Proof.Machine

/-- A byte store as a sparse list of cells. The canonical form is Memory.wf; an address that is not listed reads as
0x00. -/
abbrev Memory := List Host.Cell

/-- What an unlisted cell of a store reads as: 0x00 (DESIGN CHOICE for RAM at power-on, log entry 1). -/
def Memory.blank : Byte := 0x00

/-- The canonical form of a store of a given size: addresses strictly rising, each below the size, and no entry equal
to what an unlisted address reads as. -/
abbrev Memory.wf (size : Nat) (m : Memory) : Prop :=
  m.Pairwise (fun c d => c.1 < d.1) ∧ ∀ c ∈ m, c.1 < size ∧ c.2 ≠ Memory.blank

/-- mirroring()'s values (20_memory.md R69). -/
inductive Mirroring where
  | vertical | horizontal | singleLower | singleUpper
deriving DecidableEq, Repr

/-- A latch of the latch mappers: it holds 0xFD or 0xFE (R84). -/
inductive Latch where
  | fd | fe
deriving DecidableEq, Repr

/-- The shift-register mapper's state (R74): the shift register, the write counter 0 to 4, and four 5-bit registers. -/
structure ShiftRegs where
  shift   : BitVec 5
  count   : Fin 5
  control : BitVec 5
  chr0    : BitVec 5
  chr1    : BitVec 5
  prg     : BitVec 5
deriving DecidableEq, Repr

/-- A latch mapper's state, both variants (R84). -/
structure LatchRegs where
  prg    : BitVec 4
  chrFd0 : BitVec 5
  chrFe0 : BitVec 5
  chrFd1 : BitVec 5
  chrFe1 : BitVec 5
  mirror : BitVec 1
  latch0 : Latch
  latch1 : Latch
deriving DecidableEq, Repr

/-- The Mapper Bank: the variant MAPPER_NUMBER selects, with its registers (R34, R69). -/
inductive Mapper where
  | direct
  | shiftRegister (r : ShiftRegs)
  | latchA (r : LatchRegs)
  | latchB (r : LatchRegs)
deriving DecidableEq, Repr

/-- The cartridge the loader supplied: PRG and CHR stores with their lengths, the header's mirroring flag and the
CHR-is-RAM flag (R6, R35). OPEN parameters; no step changes them (log entry 3). -/
structure Cartridge where
  prg             : Memory
  prgLen          : Nat
  chr             : Memory
  chrLen          : Nat
  headerMirroring : Mirroring
  chrIsRam        : Bool
deriving DecidableEq, Repr

/-- Why a machine is Faulted (10_state.md R30, 60_exceptions.md R331, R332). -/
inductive FaultReason where
  | unsupportedInstruction (op : Byte) (opaddr : Word)
  | resolverContract (mode : Mode) (opaddr : Word)
deriving DecidableEq, Repr

/-- The machine status (R30). -/
inductive Status where
  | running
  | faulted (r : FaultReason)
deriving DecidableEq, Repr

/-- The two device windows of the bus (20_memory.md R51). -/
inductive Device where
  | ppu | io
deriving DecidableEq, Repr

/-- One event at the block's boundary (R58, R59, R61, 70 R365). -/
inductive BusEvent where
  | devRead (dev : Device) (reg : Word) (v : Byte)
  | devWrite (dev : Device) (reg : Word) (v : Byte)
  | mapperWrite (addr : Word) (v : Byte)
  | tick (n : Nat)
deriving DecidableEq, Repr

/-- The state of the machine. -/
structure State where
  /-- accumulator (R20) -/
  a : Byte
  /-- index register X (R20) -/
  x : Byte
  /-- index register Y (R20) -/
  y : Byte
  /-- stack pointer (R21) -/
  sp : Byte
  /-- status register, all eight bits stored (R24, R26) -/
  p : Byte
  /-- program counter (R22) -/
  pc : Word
  /-- machine status (R30) -/
  status : Status
  /-- extra-cycle accumulator (R31) -/
  extra : Nat
  /-- NMI input (R32) -/
  nmiPending : Bool
  /-- IRQ input (R32) -/
  irqPending : Bool
  /-- the 2048 bytes of work RAM (R33, R54) -/
  ram : Memory
  /-- the bus's tick counter, unbounded (R33) -/
  cycles : Nat
  /-- the mapper bank (R34) -/
  mapper : Mapper
  /-- the cartridge (R35) -/
  cart : Cartridge
  /-- the model's own: stated answers to the coming DevReads, first one next; free values after the last -/
  devAnswers : List Byte
  /-- the model's own: what the environment does in the coming Ticks, first one next; free values after the last -/
  tickInputs : List TickInput
  /-- the model's own: how many free values have been drawn -/
  draws : Nat
  /-- the model's own: the events at the boundary, the latest first -/
  events : List BusEvent
deriving DecidableEq, Repr

/-- The faults of the machine. Each carries the state the machine is left in, whose status is Faulted (R30). -/
inductive Fault where
  /-- Raised by the 25 unsupported instructions (47_unsupported.md R310, 60 R331), and again by a step taken from a
  state already faulted so (R30). Safe: the spec gives this stop. -/
  | unsupportedInstruction (op : Byte) (opaddr : Word) (left : State)
  /-- Raised by the resolver called with mode Accumulator, Implied or NoneAddressing (40 R172, 60 R332), and again by
  a step taken from a state already faulted so. No instruction does it. Safe: the spec gives this stop. -/
  | resolverContract (mode : Mode) (opaddr : Word) (left : State)
deriving DecidableEq, Repr

/-- The refusals of the model. -/
inductive Refusal where
  /-- Raised by exec's arm for an instruction that has no meaning yet; no arm does now. Safe. -/
  | notModelled (mnemonic : String)
  /-- Raised by the loader (powerOn): no mapper variant has this number (20_memory.md R91, 70 R362). Safe: the spec
  gives this refusal, and no machine exists for the cartridge. -/
  | unknownMapper (number : Nat)
  /-- Raised by the loader (powerOn): a store's length is not one R362 allows, or a store or the RAM contents are not
  in canonical form. Safe: the spec gives this refusal for the lengths. -/
  | malformedCartridge
deriving DecidableEq, Repr

/-- A step's outcome. -/
abbrev Out := Host.Outcome State Fault Refusal

/-- The cartridge of State.reset (DESIGN CHOICE, log entry 2): a blank one that the loader accepts for the direct mapper. It holds
no program. -/
def Cartridge.empty : Cartridge :=
  { prg := [], prgLen := 32768, chr := [], chrLen := 8192, headerMirroring := .horizontal, chrIsRam := false }

/-- The machine after power-on with the blank cartridge and reset (R36, 70 R360, R361). Its pc is what the blank
cartridge holds at the reset vector, 0x0000. -/
def State.reset : State :=
  { a := Params.resetA, x := Params.resetX, y := Params.resetY, sp := Params.resetSp, p := Params.resetP, pc := 0x0000,
    status := .running, extra := 0, nmiPending := false, irqPending := false, ram := [], cycles := 0,
    mapper := .direct, cart := Cartridge.empty, devAnswers := [], tickInputs := [], draws := 0, events := [] }

end Sys2Proof.Machine
end

