-- ==== Sys2Proof/Machine/Ops.lean ====
section
/-! DEFINITION. The named operations of the machine: the byte store, the mapper bank (20_memory.md R69 to R92), the bus and
its environment (R51 to R64), the tick (R61), the stack (40 R173 to R176), taking an interrupt or trap as one operation
and its uses (60 R334 to R338, 45 R282), the return from one (R283), raising a fault (60 R331, R332), closing an
iteration (40 R157, R158), reset and power-on (70 R360 to R362). -/

namespace Sys2Proof.Machine

/-! ### The byte store -/

/-- The byte at an address of a store. -/
def Memory.read : Memory → Nat → Byte
  | [], _ => Memory.blank
  | c :: t, k => if c.1 = k then c.2 else Memory.read t k

/-- The store with a cell placed in address order, in place of one at the same address. -/
def Memory.insert (k : Nat) (v : Byte) : Memory → Memory
  | [] => [(k, v)]
  | c :: t => if c.1 < k then c :: Memory.insert k v t else if c.1 = k then (k, v) :: t else (k, v) :: c :: t

/-- The store with one byte written; writing what an unlisted address reads as removes the entry. -/
def Memory.write (m : Memory) (k : Nat) (v : Byte) : Memory :=
  if v = Memory.blank then m.filter (fun c => decide (c.1 ≠ k)) else Memory.insert k v m

/-! ### The mapper bank -/

/-- An offset in a store of len bytes, in the bank that lies back banks before the store's end, reduced modulo the
store's length (R69); in integers, since a small store may have fewer banks than that (log entry 13). -/
def fixedBank (len size back within : Nat) : Nat :=
  (((((len / size : Nat) : Int) - (back : Int)) * (size : Int) + (within : Int)) % (len : Int)).toNat

/-- The direct mapper's PRG offset (R71). -/
def directPrg (len a : Nat) : Nat :=
  if len = 16384 then (a - 0x8000) % 16384 else a - 0x8000

/-- The shift-register mapper's PRG offset (R78). -/
def shiftPrg (r : ShiftRegs) (len a : Nat) : Nat :=
  let b := r.prg.toNat % 16
  let mode := r.control.toNat / 4 % 4
  if mode < 2 then ((b &&& 0x0E) * 16384 + (a - 0x8000)) % len
  else if mode = 2 then
    if a < 0xC000 then (a - 0x8000) % len else (b * 16384 + (a - 0xC000)) % len
  else
    if a < 0xC000 then (b * 16384 + (a - 0x8000)) % len else fixedBank len 16384 1 (a - 0xC000)

/-- Latch variant A's PRG offset (R86). -/
def latchAPrg (r : LatchRegs) (len a : Nat) : Nat :=
  if a < 0xA000 then (r.prg.toNat * 8192 + (a - 0x8000)) % len
  else if a < 0xC000 then fixedBank len 8192 3 (a - 0xA000)
  else if a < 0xE000 then fixedBank len 8192 2 (a - 0xC000)
  else fixedBank len 8192 1 (a - 0xE000)

/-- Latch variant B's PRG offset (R89). -/
def latchBPrg (r : LatchRegs) (len a : Nat) : Nat :=
  if a < 0xC000 then (r.prg.toNat * 16384 + (a - 0x8000)) % len
  else fixedBank len 16384 1 (a - 0xC000)

/-- The physical PRG offset of a CPU address in 0x8000 to 0xFFFF under the current bank registers (R93). -/
def prgOffset (m : Mapper) (len : Nat) (a : Word) : Nat :=
  match m with
  | .direct => directPrg len a.toNat
  | .shiftRegister r => shiftPrg r len a.toNat
  | .latchA r => latchAPrg r len a.toNat
  | .latchB r => latchBPrg r len a.toNat

/-- read_prg(a) (R69). -/
def readPrg (s : State) (a : Word) : Byte :=
  s.cart.prg.read (prgOffset s.mapper s.cart.prgLen a)

/-- The register port of the shift-register mapper (R75, R76). -/
def shiftWrite (r : ShiftRegs) (a : Word) (v : Byte) : ShiftRegs :=
  if v.getLsbD 7 then { r with shift := 0, count := 0, control := r.control ||| 0x0C }
  else
    let shift := r.shift ||| ((v &&& 1).setWidth 5 <<< r.count.val)
    if h : r.count.val + 1 < 5 then { r with shift := shift, count := ⟨r.count.val + 1, h⟩ }
    else
      let done := { r with shift := 0, count := 0 }
      match a.toNat / 8192 % 4 with
      | 0 => { done with control := shift }
      | 1 => { done with chr0 := shift }
      | 2 => { done with chr1 := shift }
      | _ => { done with prg := shift }

/-- The register port of the latch mappers (R85). -/
def latchWrite (r : LatchRegs) (a : Word) (v : Byte) : LatchRegs :=
  match a.toNat / 4096 with
  | 0xA => { r with prg := v.setWidth 4 }
  | 0xB => { r with chrFd0 := v.setWidth 5 }
  | 0xC => { r with chrFe0 := v.setWidth 5 }
  | 0xD => { r with chrFd1 := v.setWidth 5 }
  | 0xE => { r with chrFe1 := v.setWidth 5 }
  | 0xF => { r with mirror := v.setWidth 1 }
  | _ => r

/-- Mapper.write(a, v) (R69, R73, R75, R85, R90). -/
def mapperWrite (m : Mapper) (a : Word) (v : Byte) : Mapper :=
  match m with
  | .direct => .direct
  | .shiftRegister r => .shiftRegister (shiftWrite r a v)
  | .latchA r => .latchA (latchWrite r a v)
  | .latchB r => .latchB (latchWrite r a v)

/-- The output event of a write to the register port: none on the direct mapper, which has no register (70 R365, log
entry 17). -/
def portEvents (m : Mapper) (a : Word) (v : Byte) : List BusEvent :=
  match m with
  | .direct => []
  | .shiftRegister _ | .latchA _ | .latchB _ => [.mapperWrite a v]

/-- The 4 KB bank a latch mapper reads a pattern address from, under the latches as they stand (R87). -/
def latchBank (r : LatchRegs) (a : PpuAddr) : BitVec 5 :=
  if a.toNat < 0x1000 then (if r.latch0 = .fd then r.chrFd0 else r.chrFe0)
  else (if r.latch1 = .fd then r.chrFd1 else r.chrFe1)

/-- The length of the CHR store: 8192 bytes where it is RAM (R92). -/
def chrSize (c : Cartridge) : Nat := if c.chrIsRam then 8192 else c.chrLen

/-- The physical CHR offset of a pattern address (R72, R79, R87). -/
def chrOffset (m : Mapper) (len : Nat) (a : PpuAddr) : Nat :=
  match m with
  | .direct => a.toNat % len
  | .shiftRegister r =>
    if r.control.getLsbD 4 = false then ((r.chr0.toNat &&& 0x1E) * 4096 + a.toNat) % len
    else if a.toNat < 0x1000 then (r.chr0.toNat * 4096 + a.toNat) % len
    else (r.chr1.toNat * 4096 + (a.toNat - 0x1000)) % len
  | .latchA r | .latchB r => ((latchBank r a).toNat * 4096 + a.toNat % 0x1000) % len

/-- The latches after a pattern read: the sentinel of latch 0 is the single addresses given (variant A) or the eight
addresses from them (variant B), by the width given (R87). -/
def touchLatch (width : Nat) (r : LatchRegs) (a : PpuAddr) : LatchRegs :=
  let k := a.toNat
  if 0x0FD8 ≤ k ∧ k < 0x0FD8 + width then { r with latch0 := .fd }
  else if 0x0FE8 ≤ k ∧ k < 0x0FE8 + width then { r with latch0 := .fe }
  else if 0x1FD8 ≤ k ∧ k ≤ 0x1FDF then { r with latch1 := .fd }
  else if 0x1FE8 ≤ k ∧ k ≤ 0x1FEF then { r with latch1 := .fe }
  else r

/-- The mapper after the PPU has read the given pattern addresses in order (R87; no other variant has a side effect,
R72, R79). -/
def mapperAfterChr (m : Mapper) (reads : List PpuAddr) : Mapper :=
  match m with
  | .direct => .direct
  | .shiftRegister r => .shiftRegister r
  | .latchA r => .latchA (reads.foldl (touchLatch 1) r)
  | .latchB r => .latchB (reads.foldl (touchLatch 8) r)

/-- The byte the PPU reads at a pattern address. A CHR RAM holds whatever the environment last stored, which is another
free value after every event at the boundary and after every read (R92, log entry 14). -/
def chrByte (s : State) (a : PpuAddr) : Byte :=
  let off := chrOffset s.mapper (chrSize s.cart) a
  if s.cart.chrIsRam then Config.chrRamByte s.draws s.events.length off else s.cart.chr.read off

/-- read_chr(a, ro) (R69, R87, R62): the byte, and the machine with the latches as the read leaves them; the read-only
path leaves them alone. -/
def readChr (s : State) (a : PpuAddr) (ro : Bool) : Byte × State :=
  (chrByte s a,
   if ro then s
   else { s with mapper := mapperAfterChr s.mapper [a], draws := if s.cart.chrIsRam then s.draws + 1 else s.draws })

/-- mirroring() (R69, R73, R77, R80, R88). -/
def mirroring (s : State) : Mirroring :=
  match s.mapper with
  | .direct => s.cart.headerMirroring
  | .shiftRegister r =>
    match r.control.toNat % 4 with
    | 0 => .singleLower
    | 1 => .singleUpper
    | 2 => .vertical
    | _ => .horizontal
  | .latchA r | .latchB r => if r.mirror = 0 then .vertical else .horizontal

/-- uses_chr_ram() (R69). -/
def usesChrRam (s : State) : Bool := s.cart.chrIsRam

/-! ### The bus and the environment behind it -/

/-- The owners of the CPU address space (R51). -/
inductive Region where
  | ram | ppu | io | unmapped | mapper
deriving DecidableEq, Repr

/-- The owner of an address (R51). -/
def regionOf (a : Word) : Region :=
  if a.toNat ≤ 0x1FFF then .ram
  else if a.toNat ≤ 0x3FFF then .ppu
  else if a.toNat ≤ 0x4017 then .io
  else if a.toNat ≤ 0x7FFF then .unmapped
  else .mapper

/-- The work RAM byte an address of the RAM window names: a AND 0x07FF (R51, R54). -/
def ramIndex (a : Word) : Nat := (a &&& 0x07FF).toNat

/-- The register number the PPU window passes on: a AND 7 (R55). -/
def ppuReg (a : Word) : Word := a &&& 0x0007

/-- DevRead(dev, reg) (R58): the next stated answer, or a free value when none is left. -/
def devRead (dev : Device) (reg : Word) (s : State) : Byte × State :=
  match s.devAnswers with
  | v :: rest => (v, { s with devAnswers := rest, events := .devRead dev reg v :: s.events })
  | [] => (Config.devAnswer s.draws,
           { s with draws := s.draws + 1, events := .devRead dev reg (Config.devAnswer s.draws) :: s.events })

/-- DevWrite(dev, reg, v) (R59): an output event, and no change of the block's state. -/
def devWrite (dev : Device) (reg : Word) (v : Byte) (s : State) : State :=
  { s with events := .devWrite dev reg v :: s.events }

/-- MemRead(a, 1) (R52). It never faults. -/
def memRead (a : Word) (s : State) : Byte × State :=
  match regionOf a with
  | .ram => (s.ram.read (ramIndex a), s)
  | .ppu => devRead .ppu (ppuReg a) s
  | .io => devRead .io a s
  | .unmapped => (0x00, s)
  | .mapper => (readPrg s a, s)

/-- MemRead(a, 2): two byte reads, the low address first, the second address wrapping at 0xFFFF (R64). -/
def memRead16 (a : Word) (s : State) : Word × State :=
  let l := memRead a s
  let h := memRead (a + 1) l.2
  (wordOf h.1 l.1, h.2)

/-- MemRead_ro(a), the read-only path (R62): the byte a read would return, and no effect. -/
def memReadRo (a : Word) (s : State) : Byte := (memRead a s).1

/-- MemWrite(a, 1, v) (R53). It never faults, and a write above 0x7FFF reaches the mapper's port, never PRG. -/
def memWrite (a : Word) (v : Byte) (s : State) : State :=
  match regionOf a with
  | .ram => { s with ram := s.ram.write (ramIndex a) v }
  | .ppu => devWrite .ppu (ppuReg a) v s
  | .io => devWrite .io a v s
  | .unmapped => s
  | .mapper => { s with mapper := mapperWrite s.mapper a v, events := portEvents s.mapper a v ++ s.events }

/-- What the environment does in the next Tick: the next stated input, or a free one when none is left (R60). -/
def nextTickInput (s : State) : TickInput × State :=
  match s.tickInputs with
  | i :: rest => (i, { s with tickInputs := rest })
  | [] => (Config.tickInput s.draws, { s with draws := s.draws + 1 })

/-- Tick(n) (R61): n more cycles, then the environment acts as R60 allows: it may raise nmi_pending but not clear it,
it sets the level irq_pending, and it reads pattern bytes. -/
def tick (n : Nat) (s : State) : State :=
  let env := nextTickInput { s with cycles := s.cycles + n, events := .tick n :: s.events }
  { env.2 with
    nmiPending := env.2.nmiPending || env.1.raiseNmi
    irqPending := env.1.irqLevel
    mapper := mapperAfterChr env.2.mapper env.1.chrReads }

/-! ### The stack -/

/-- The address SP designates (10_state.md R21). -/
def stackAddr (sp : Byte) : Word := Params.stackBase + zext16 sp

/-- Push(v): the byte is stored where SP points, then SP is decremented modulo 256 (40 R173). -/
def push (v : Byte) (s : State) : State :=
  let t := memWrite (stackAddr s.sp) v s
  { t with sp := t.sp - 1 }

/-- Pop(): SP is incremented modulo 256, then the byte where it points is read (R174). -/
def pop (s : State) : Byte × State :=
  memRead (stackAddr (s.sp + 1)) { s with sp := s.sp + 1 }

/-- Push16(w): high byte, then low byte (R175). -/
def push16 (w : Word) (s : State) : State := push (lo w) (push (hi w) s)

/-- Pop16(): low byte, then high byte (R176). -/
def pop16 (s : State) : Word × State :=
  let l := pop s
  let h := pop l.2
  (wordOf h.1 l.1, h.2)

/-! ### Interrupts and the software trap -/

/-- What the three entries differ in (60 R337): the address and the status byte pushed, the vector, what becomes of
Break and InterruptDisable, and the ticks charged inside the entry, before or after the vector is read. -/
structure Entry where
  returnTo     : Word
  pushedStatus : Byte
  vector       : Word
  setsBreak    : Bool
  setsI        : Bool
  ticksBefore  : Option Nat
  ticksAfter   : Option Nat
deriving DecidableEq, Repr

/-- Tick where an entry charges one at this point. -/
def tickSome : Option Nat → State → State
  | none, s => s
  | some n, s => tick n s

/-- Taking an interrupt or trap (R334, R336, 45 R282): the return address is pushed, high byte first, then the status
byte; P's Break and InterruptDisable are written; pc is loaded from the vector. -/
def takeException (e : Entry) (s : State) : State :=
  let pushed := push e.pushedStatus (push16 e.returnTo s)
  let ticked := tickSome e.ticksBefore pushed
  let target := memRead16 e.vector ticked
  let t := target.2
  tickSome e.ticksAfter
    { t with
      pc := target.1
      p := (if e.setsI then setFlag .I true else id) ((if e.setsBreak then setFlag .B true else id) t.p) }

/-- The entry of an NMI from a machine about to fetch at pc (R334). -/
def nmiEntryOf (s : State) : Entry :=
  { returnTo := s.pc, pushedStatus := nmiByte s.p, vector := Params.nmiVector, setsBreak := false, setsI := true,
    ticksBefore := some Params.nmiEntryTicks, ticksAfter := none }

/-- NMI_Entry() (R334): the pending flag is cleared and the entry taken. -/
def nmiEntry (s : State) : State :=
  takeException (nmiEntryOf s) { s with nmiPending := false }

/-- The entry of an IRQ from a machine about to fetch at pc, in the style BRK_PUSH_STYLE names (R336, 92 D10). -/
def irqEntryOf (s : State) : Entry :=
  match Params.brkPushStyle with
  | .asDocumented =>
    { returnTo := s.pc, pushedStatus := s.p, vector := Params.irqVector, setsBreak := true, setsI := Params.irqSetsI,
      ticksBefore := none, ticksAfter := some Params.irqEntryTicks }
  | .hardware =>
    { returnTo := s.pc, pushedStatus := nmiByte s.p, vector := Params.irqVector, setsBreak := false,
      setsI := Params.irqSetsI, ticksBefore := none, ticksAfter := some Params.irqEntryTicks }

/-- IRQ_Entry() (R336). irq_pending is not written. -/
def irqEntry (s : State) : State := takeException (irqEntryOf s) s

/-- The entry of BRK, pc being the address after its opcode: it returns to opaddr + 2 and ticks nothing inside
(45 R282, 60 R337). -/
def brkEntryOf (s : State) : Entry :=
  match Params.brkPushStyle with
  | .asDocumented =>
    { returnTo := s.pc + 1, pushedStatus := s.p, vector := Params.irqVector, setsBreak := true,
      setsI := Params.irqSetsI, ticksBefore := none, ticksAfter := none }
  | .hardware =>
    { returnTo := s.pc + 1, pushedStatus := phpByte s.p, vector := Params.irqVector, setsBreak := false,
      setsI := Params.irqSetsI, ticksBefore := none, ticksAfter := none }

/-- BRK's entry (R282). -/
def brkEntry (s : State) : State := takeException (brkEntryOf s) s

/-- Return from an interrupt or trap (R283, 60 R340): the status byte is popped, Break cleared and bit 5 set in it,
then pc, low byte first, with nothing added. -/
def returnFromException (s : State) : State :=
  let t := pop s
  let r := pop16 { t.2 with p := pulledP t.1 }
  { r.2 with pc := r.1 }

/-- Steps 1 and 2 of the iteration (40 R151, R152, 60 R338): an NMI pending is taken whatever I is; else an IRQ
pending is taken if I is 0; else nothing happens. -/
def pollInterrupts (s : State) : State :=
  if s.nmiPending then nmiEntry s
  else if s.irqPending && !getFlag .I s.p then irqEntry s
  else s

/-! ### Faults -/

/-- The fault of a reason, with the state the machine is left in. -/
def faultOf (r : FaultReason) (left : State) : Out :=
  match r with
  | .unsupportedInstruction op opaddr => .fault (.unsupportedInstruction op opaddr left)
  | .resolverContract mode opaddr => .fault (.resolverContract mode opaddr left)

/-- raise reason (00_scope.md R8, 60 R331, R332): the status becomes Faulted(reason) and the machine stops, everything
else as it stands. -/
def raise (r : FaultReason) (s : State) : Out := faultOf r { s with status := .faulted r }

/-! ### Closing an iteration -/

/-- The penalty class applied to the extra cycles (40 R157). -/
def applyPenalty (c : Penalty) (extra : Nat) : Nat :=
  match c with
  | .none => 0
  | .page => extra
  | .branch => extra

/-- Steps 8 and 9 of the iteration (R157, R158). -/
def finish (d : Descriptor) (s : State) : State :=
  let t := { s with extra := applyPenalty d.penalty s.extra }
  tick (d.cycles + t.extra) t

/-! ### Reset and power-on -/

/-- reset() (70 R360): the registers take the power-on pattern, pending flags are cleared, the status is Running and
pc is loaded from the reset vector; RAM, cycles and the mapper are left. RESET_TICKS = 0 charges no tick. -/
def hostReset (s : State) : State :=
  let r : State := { s with a := Params.resetA, x := Params.resetX, y := Params.resetY, sp := Params.resetSp,
                            p := Params.resetP, nmiPending := false, irqPending := false, status := .running,
                            extra := 0 }
  let v := memRead16 Params.resetVector r
  let t := { v.2 with pc := v.1 }
  if Params.resetTicks = 0 then t else tick Params.resetTicks t

/-- The mapper bank of a MAPPER_NUMBER as its constructor leaves it (R361, 10_state.md R36); none where no variant has
the number (20 R91). -/
def mapperAtLoad (number : Nat) : Option Mapper :=
  match number with
  | 0 => some .direct
  | 1 => some (.shiftRegister { shift := 0, count := 0, control := 0x0C, chr0 := 0, chr1 := 0, prg := 0 })
  | 9 => some (.latchA { prg := 0, chrFd0 := 0, chrFe0 := 0, chrFd1 := 0, chrFe1 := 0, mirror := 0, latch0 := .fe,
                         latch1 := .fe })
  | 10 => some (.latchB { prg := 0, chrFd0 := 0, chrFe0 := 0, chrFd1 := 0, chrFe1 := 0, mirror := 0, latch0 := .fe,
                          latch1 := .fe })
  | _ => none

/-- The PRG lengths a variant is loaded with (70 R362). -/
def prgLenOk (m : Mapper) (len : Nat) : Bool :=
  match m with
  | .direct => decide (len = 16384 ∨ len = 32768)
  | .shiftRegister _ | .latchB _ => decide (0 < len ∧ len % 16384 = 0)
  | .latchA _ => decide (0 < len ∧ len % 8192 = 0)

/-- The CHR lengths a variant is loaded with (R362): a CHR RAM has 8192 bytes. -/
def chrLenOk (m : Mapper) (isRam : Bool) (len : Nat) : Bool :=
  if isRam then decide (len = 8192)
  else
    match m with
    | .direct | .shiftRegister _ => decide (0 < len ∧ len % 8192 = 0)
    | .latchA _ | .latchB _ => decide (0 < len ∧ len % 4096 = 0)

/-- The loader's HEADER_MIRRORING is Vertical or Horizontal (00_scope.md R6). -/
def headerMirroringOk (h : Mirroring) : Bool :=
  match h with
  | .vertical | .horizontal => true
  | .singleLower | .singleUpper => false

/-- A cartridge the loader accepts for a variant (R362): the lengths, the mirroring flag, and stores in canonical form
within them. -/
def cartridgeOk (m : Mapper) (c : Cartridge) : Bool :=
  prgLenOk m c.prgLen && chrLenOk m c.chrIsRam c.chrLen && headerMirroringOk c.headerMirroring &&
  decide (Memory.wf c.prgLen c.prg) && decide (Memory.wf c.chrLen c.chr)

/-- Power-on with a cartridge (R361): the loader's outputs, the mapper as constructed, cycles 0, the RAM contents
RAM_INIT, then reset; or the loader's refusal (R362). -/
def powerOn (number : Nat) (c : Cartridge) (ramInit : Memory) : Out :=
  match mapperAtLoad number with
  | none => .refused (.unknownMapper number)
  | some m =>
    if cartridgeOk m c && decide (Memory.wf 2048 ramInit) then
      .next (hostReset { State.reset with mapper := m, cart := c, ram := ramInit })
    else .refused .malformedCartridge

end Sys2Proof.Machine
end

