-- ==== Sys2Proof/Machine/Operands.lean ====
section
/-! DEFINITION. The operand forms and the addressing-mode resolver (40_execution_and_addressing.md R160 to R172), the operand
read (R179), the read-modify-write access (R178), and the fall-through of pc (R180). An instruction's meaning runs with
pc at opaddr + 1 (10_state.md R22), its operand bytes already read by the fetch. -/

namespace Sys2Proof.Machine

/-- A decoded operand: a mode tag with what the operand bytes hold (R124, 30 R125). -/
inductive Operand where
  | immediate (v : Byte)
  | zeroPage (b : Byte)
  | zeroPageX (b : Byte)
  | zeroPageY (b : Byte)
  | absolute (w : Word)
  | absoluteX (w : Word)
  | absoluteY (w : Word)
  | indirect (w : Word)
  | indirectX (b : Byte)
  | indirectY (b : Byte)
  | relative (d : Byte)
  | accumulator
  | implied
  | noneAddressing
deriving DecidableEq, Repr

/-- The mode tag of an operand. -/
def Operand.mode : Operand → Mode
  | .immediate _ => .immediate
  | .zeroPage _ => .zeroPage
  | .zeroPageX _ => .zeroPageX
  | .zeroPageY _ => .zeroPageY
  | .absolute _ => .absolute
  | .absoluteX _ => .absoluteX
  | .absoluteY _ => .absoluteY
  | .indirect _ => .indirect
  | .indirectX _ => .indirectX
  | .indirectY _ => .indirectY
  | .relative _ => .relative
  | .accumulator => .accumulator
  | .implied => .implied
  | .noneAddressing => .noneAddressing

/-- The number of operand bytes: the mode's length less the opcode byte (R124). -/
def Operand.size (o : Operand) : Nat := o.mode.length - 1

/-- pc_next = opaddr + length, from a machine whose pc is opaddr + 1 (R180, 10_state.md R23). -/
def pcNext (o : Operand) (s : State) : Word := s.pc + BitVec.ofNat 16 o.size

/-- pc <- pc_next (R180). -/
def advance (o : Operand) (s : State) : State := { s with pc := pcNext o s }

/-- An index added to a 16-bit base, and one extra cycle if the high byte changes (R166, R167, R170). -/
def indexed (base : Word) (index : Byte) (s : State) : Word × State :=
  let ea := base + zext16 index
  (ea, if page ea ≠ page base then { s with extra := s.extra + 1 } else s)

/-- A pointer in zero page: its high byte's address wraps within zero page (R169, R170). -/
def zeroPagePointer (p : Byte) (s : State) : Word × State :=
  let l := memRead (zext16 p) s
  let h := memRead (zext16 (p + 1)) l.2
  (wordOf h.1 l.1, h.2)

/-- JMP's pointer: its high byte's address never leaves the pointer's page (R168). -/
def pagePointer (ptr : Word) (s : State) : Word × State :=
  let l := memRead ptr s
  let h := memRead (page ptr ||| ((ptr + 1) &&& 0x00FF)) l.2
  (wordOf h.1 l.1, h.2)

/-- Resolve(mode) (R160 to R172): the effective address, and the machine after the pointer reads with any page-cross
charge; the contract fault on the three tags that have no address. -/
def resolve (o : Operand) (s : State) : Except FaultReason (Word × State) :=
  match o with
  | .immediate _ => .ok (s.pc, s)
  | .zeroPage b => .ok (zext16 b, s)
  | .zeroPageX b => .ok (zext16 (b + s.x), s)
  | .zeroPageY b => .ok (zext16 (b + s.y), s)
  | .absolute w => .ok (w, s)
  | .absoluteX w => .ok (indexed w s.x s)
  | .absoluteY w => .ok (indexed w s.y s)
  | .indirect w => .ok (pagePointer w s)
  | .indirectX b => .ok (zeroPagePointer (b + s.x) s)
  | .indirectY b => .ok (indexed (zeroPagePointer b s).1 s.y (zeroPagePointer b s).2)
  | .relative d => .ok (s.pc + 1 + sext16 d, s)
  | .accumulator => .error (.resolverContract .accumulator (s.pc - 1))
  | .implied => .error (.resolverContract .implied (s.pc - 1))
  | .noneAddressing => .error (.resolverContract .noneAddressing (s.pc - 1))

/-- M = MemRead(ea, 1), once, after resolution (R179). An immediate's one read is the operand byte's own, which the
fetch has made. -/
def readOperand (o : Operand) (s : State) : Except FaultReason (Byte × State) :=
  match o with
  | .immediate v => .ok (v, s)
  | o =>
    match resolve o s with
    | .ok r => .ok (memRead r.1 r.2)
    | .error e => .error e

/-- An instruction's rule run with its effective address (R150 step 6, R156). -/
def withAddress (o : Operand) (s : State) (k : Word → State → Out) : Out :=
  match resolve o s with
  | .ok r => k r.1 r.2
  | .error e => raise e s

/-- An instruction's rule run with its operand byte M. -/
def withOperand (o : Operand) (s : State) (k : Byte → State → Out) : Out :=
  match readOperand o s with
  | .ok r => k r.1 r.2
  | .error e => raise e s

/-- A read-modify-write on memory (R178): one read of ea, then one write of the result f makes of the byte and P, with
the flags f makes; the rest of the rule then runs on that result. -/
def withModified (o : Operand) (s : State) (f : Byte → Byte → Byte × Byte) (k : Byte → State → Out) : Out :=
  withAddress o s fun ea t =>
    let m := memRead ea t
    let r := f m.1 m.2.p
    k r.1 { memWrite ea r.1 m.2 with p := r.2 }

/-- A store of a byte at ea, which is not read (R179). -/
def store (v : Byte) (o : Operand) (s : State) : Out :=
  withAddress o s fun ea t => .next (advance o (memWrite ea v t))

end Sys2Proof.Machine
end

