-- ==== Sys2Proof/Machine/LoadStore.lean ====
section
/-! DEFINITION. Load, store and register-transfer instructions (41_load_store_transfer.md R200 to R211). -/

namespace Sys2Proof.Machine

/-- LDA in every mode: the register takes the operand byte, Z and N follow it (R200). -/
def loadA (o : Operand) (s : State) : Out :=
  withOperand o s fun m t => .next (advance o { t with a := m, p := setNZ m t.p })

/-- LDA (zp,X), opcode A1 (R200). -/
def execLdaIndX (v : Byte) (s : State) : Out := loadA (.indirectX v) s

/-- LDA zp, opcode A5 (R200). -/
def execLdaZp (v : Byte) (s : State) : Out := loadA (.zeroPage v) s

/-- LDA #, opcode A9 (R200). -/
def execLdaImm (v : Byte) (s : State) : Out := loadA (.immediate v) s

/-- LDA abs, opcode AD (R200). -/
def execLdaAbs (w : Word) (s : State) : Out := loadA (.absolute w) s

/-- LDA (zp),Y, opcode B1 (R200). -/
def execLdaIndY (v : Byte) (s : State) : Out := loadA (.indirectY v) s

/-- LDA zp,X, opcode B5 (R200). -/
def execLdaZpX (v : Byte) (s : State) : Out := loadA (.zeroPageX v) s

/-- LDA abs,Y, opcode B9 (R200). -/
def execLdaAbsY (w : Word) (s : State) : Out := loadA (.absoluteY w) s

/-- LDA abs,X, opcode BD (R200). -/
def execLdaAbsX (w : Word) (s : State) : Out := loadA (.absoluteX w) s

/-- LDX in every mode: the register takes the operand byte, Z and N follow it (R201). -/
def loadX (o : Operand) (s : State) : Out :=
  withOperand o s fun m t => .next (advance o { t with x := m, p := setNZ m t.p })

/-- LDX #, opcode A2 (R201). -/
def execLdxImm (v : Byte) (s : State) : Out := loadX (.immediate v) s

/-- LDX zp, opcode A6 (R201). -/
def execLdxZp (v : Byte) (s : State) : Out := loadX (.zeroPage v) s

/-- LDX abs, opcode AE (R201). -/
def execLdxAbs (w : Word) (s : State) : Out := loadX (.absolute w) s

/-- LDX zp,Y, opcode B6 (R201). -/
def execLdxZpY (v : Byte) (s : State) : Out := loadX (.zeroPageY v) s

/-- LDX abs,Y, opcode BE (R201). -/
def execLdxAbsY (w : Word) (s : State) : Out := loadX (.absoluteY w) s

/-- LDY in every mode: the register takes the operand byte, Z and N follow it (R202). -/
def loadY (o : Operand) (s : State) : Out :=
  withOperand o s fun m t => .next (advance o { t with y := m, p := setNZ m t.p })

/-- LDY #, opcode A0 (R202). -/
def execLdyImm (v : Byte) (s : State) : Out := loadY (.immediate v) s

/-- LDY zp, opcode A4 (R202). -/
def execLdyZp (v : Byte) (s : State) : Out := loadY (.zeroPage v) s

/-- LDY abs, opcode AC (R202). -/
def execLdyAbs (w : Word) (s : State) : Out := loadY (.absolute w) s

/-- LDY zp,X, opcode B4 (R202). -/
def execLdyZpX (v : Byte) (s : State) : Out := loadY (.zeroPageX v) s

/-- LDY abs,X, opcode BC (R202). -/
def execLdyAbsX (w : Word) (s : State) : Out := loadY (.absoluteX w) s

/-- STA in every mode: the register is stored, no flag changes (R203). -/
def storeA (o : Operand) (s : State) : Out := store s.a o s

/-- STA (zp,X), opcode 81 (R203). -/
def execStaIndX (v : Byte) (s : State) : Out := storeA (.indirectX v) s

/-- STA zp, opcode 85 (R203). -/
def execStaZp (v : Byte) (s : State) : Out := storeA (.zeroPage v) s

/-- STA abs, opcode 8D (R203). -/
def execStaAbs (w : Word) (s : State) : Out := storeA (.absolute w) s

/-- STA (zp),Y, opcode 91 (R203). -/
def execStaIndY (v : Byte) (s : State) : Out := storeA (.indirectY v) s

/-- STA zp,X, opcode 95 (R203). -/
def execStaZpX (v : Byte) (s : State) : Out := storeA (.zeroPageX v) s

/-- STA abs,Y, opcode 99 (R203). -/
def execStaAbsY (w : Word) (s : State) : Out := storeA (.absoluteY w) s

/-- STA abs,X, opcode 9D (R203). -/
def execStaAbsX (w : Word) (s : State) : Out := storeA (.absoluteX w) s

/-- STX in every mode: the register is stored, no flag changes (R204). -/
def storeX (o : Operand) (s : State) : Out := store s.x o s

/-- STX zp, opcode 86 (R204). -/
def execStxZp (v : Byte) (s : State) : Out := storeX (.zeroPage v) s

/-- STX abs, opcode 8E (R204). -/
def execStxAbs (w : Word) (s : State) : Out := storeX (.absolute w) s

/-- STX zp,Y, opcode 96 (R204). -/
def execStxZpY (v : Byte) (s : State) : Out := storeX (.zeroPageY v) s

/-- STY in every mode: the register is stored, no flag changes (R205). -/
def storeY (o : Operand) (s : State) : Out := store s.y o s

/-- STY zp, opcode 84 (R205). -/
def execStyZp (v : Byte) (s : State) : Out := storeY (.zeroPage v) s

/-- STY abs, opcode 8C (R205). -/
def execStyAbs (w : Word) (s : State) : Out := storeY (.absolute w) s

/-- STY zp,X, opcode 94 (R205). -/
def execStyZpX (v : Byte) (s : State) : Out := storeY (.zeroPageX v) s

/-- The end of a one-byte instruction: pc_next = opaddr + 1 (40 R180). -/
def implied (s : State) : Out := .next (advance .implied s)

/-- TAX, opcode AA (R206). -/
def execTax (s : State) : Out := implied { s with x := s.a, p := setNZ s.a s.p }

/-- TAY, opcode A8 (R207). -/
def execTay (s : State) : Out := implied { s with y := s.a, p := setNZ s.a s.p }

/-- TXA, opcode 8A (R208). -/
def execTxa (s : State) : Out := implied { s with a := s.x, p := setNZ s.x s.p }

/-- TYA, opcode 98 (R209). -/
def execTya (s : State) : Out := implied { s with a := s.y, p := setNZ s.y s.p }

/-- TSX, opcode BA (R210). -/
def execTsx (s : State) : Out := implied { s with x := s.sp, p := setNZ s.sp s.p }

/-- TXS, opcode 9A: no flag changes (R211). -/
def execTxs (s : State) : Out := implied { s with sp := s.x }

end Sys2Proof.Machine
end

