-- ==== Sys2Proof/Machine/Arithmetic.lean ====
section
/-! DEFINITION. Arithmetic, logic, compare, increment and decrement instructions (42_arithmetic_logic.md R220 to R238). -/

namespace Sys2Proof.Machine

/-- An accumulator operation in every mode: A and P from A, the operand byte and P (R222 to R226). -/
def accumulate (f : Byte → Byte → Byte → Byte × Byte) (o : Operand) (s : State) : Out :=
  withOperand o s fun m t => .next (advance o { t with a := (f t.a m t.p).1, p := (f t.a m t.p).2 })

/-- A comparison of a register with the operand byte in every mode; only P changes (R228 to R230). -/
def compare (r : State → Byte) (o : Operand) (s : State) : Out :=
  withOperand o s fun m t => .next (advance o { t with p := cmpCore (r t) m t.p })

/-- ADC in every mode (R222). -/
def addA (o : Operand) (s : State) : Out := accumulate adcCore o s

/-- ADC (zp,X), opcode 61 (R222). -/
def execAdcIndX (v : Byte) (s : State) : Out := addA (.indirectX v) s

/-- ADC zp, opcode 65 (R222). -/
def execAdcZp (v : Byte) (s : State) : Out := addA (.zeroPage v) s

/-- ADC #, opcode 69 (R222). -/
def execAdcImm (v : Byte) (s : State) : Out := addA (.immediate v) s

/-- ADC abs, opcode 6D (R222). -/
def execAdcAbs (w : Word) (s : State) : Out := addA (.absolute w) s

/-- ADC (zp),Y, opcode 71 (R222). -/
def execAdcIndY (v : Byte) (s : State) : Out := addA (.indirectY v) s

/-- ADC zp,X, opcode 75 (R222). -/
def execAdcZpX (v : Byte) (s : State) : Out := addA (.zeroPageX v) s

/-- ADC abs,Y, opcode 79 (R222). -/
def execAdcAbsY (w : Word) (s : State) : Out := addA (.absoluteY w) s

/-- ADC abs,X, opcode 7D (R222). -/
def execAdcAbsX (w : Word) (s : State) : Out := addA (.absoluteX w) s

/-- SBC in every mode (R223, R300). -/
def subtractA (o : Operand) (s : State) : Out := accumulate sbcCore o s

/-- SBC (zp,X), opcode E1 (R223). -/
def execSbcIndX (v : Byte) (s : State) : Out := subtractA (.indirectX v) s

/-- SBC zp, opcode E5 (R223). -/
def execSbcZp (v : Byte) (s : State) : Out := subtractA (.zeroPage v) s

/-- SBC #, opcode E9 (R223). -/
def execSbcImm (v : Byte) (s : State) : Out := subtractA (.immediate v) s

/-- SBC #, opcode EB (R300). -/
def execSbcImmEB (v : Byte) (s : State) : Out := subtractA (.immediate v) s

/-- SBC abs, opcode ED (R223). -/
def execSbcAbs (w : Word) (s : State) : Out := subtractA (.absolute w) s

/-- SBC (zp),Y, opcode F1 (R223). -/
def execSbcIndY (v : Byte) (s : State) : Out := subtractA (.indirectY v) s

/-- SBC zp,X, opcode F5 (R223). -/
def execSbcZpX (v : Byte) (s : State) : Out := subtractA (.zeroPageX v) s

/-- SBC abs,Y, opcode F9 (R223). -/
def execSbcAbsY (w : Word) (s : State) : Out := subtractA (.absoluteY w) s

/-- SBC abs,X, opcode FD (R223). -/
def execSbcAbsX (w : Word) (s : State) : Out := subtractA (.absoluteX w) s

/-- AND in every mode (R224). -/
def andA (o : Operand) (s : State) : Out := accumulate andCore o s

/-- AND (zp,X), opcode 21 (R224). -/
def execAndIndX (v : Byte) (s : State) : Out := andA (.indirectX v) s

/-- AND zp, opcode 25 (R224). -/
def execAndZp (v : Byte) (s : State) : Out := andA (.zeroPage v) s

/-- AND #, opcode 29 (R224). -/
def execAndImm (v : Byte) (s : State) : Out := andA (.immediate v) s

/-- AND abs, opcode 2D (R224). -/
def execAndAbs (w : Word) (s : State) : Out := andA (.absolute w) s

/-- AND (zp),Y, opcode 31 (R224). -/
def execAndIndY (v : Byte) (s : State) : Out := andA (.indirectY v) s

/-- AND zp,X, opcode 35 (R224). -/
def execAndZpX (v : Byte) (s : State) : Out := andA (.zeroPageX v) s

/-- AND abs,Y, opcode 39 (R224). -/
def execAndAbsY (w : Word) (s : State) : Out := andA (.absoluteY w) s

/-- AND abs,X, opcode 3D (R224). -/
def execAndAbsX (w : Word) (s : State) : Out := andA (.absoluteX w) s

/-- ORA in every mode (R225). -/
def orA (o : Operand) (s : State) : Out := accumulate oraCore o s

/-- ORA (zp,X), opcode 01 (R225). -/
def execOraIndX (v : Byte) (s : State) : Out := orA (.indirectX v) s

/-- ORA zp, opcode 05 (R225). -/
def execOraZp (v : Byte) (s : State) : Out := orA (.zeroPage v) s

/-- ORA #, opcode 09 (R225). -/
def execOraImm (v : Byte) (s : State) : Out := orA (.immediate v) s

/-- ORA abs, opcode 0D (R225). -/
def execOraAbs (w : Word) (s : State) : Out := orA (.absolute w) s

/-- ORA (zp),Y, opcode 11 (R225). -/
def execOraIndY (v : Byte) (s : State) : Out := orA (.indirectY v) s

/-- ORA zp,X, opcode 15 (R225). -/
def execOraZpX (v : Byte) (s : State) : Out := orA (.zeroPageX v) s

/-- ORA abs,Y, opcode 19 (R225). -/
def execOraAbsY (w : Word) (s : State) : Out := orA (.absoluteY w) s

/-- ORA abs,X, opcode 1D (R225). -/
def execOraAbsX (w : Word) (s : State) : Out := orA (.absoluteX w) s

/-- EOR in every mode (R226). -/
def xorA (o : Operand) (s : State) : Out := accumulate eorCore o s

/-- EOR (zp,X), opcode 41 (R226). -/
def execEorIndX (v : Byte) (s : State) : Out := xorA (.indirectX v) s

/-- EOR zp, opcode 45 (R226). -/
def execEorZp (v : Byte) (s : State) : Out := xorA (.zeroPage v) s

/-- EOR #, opcode 49 (R226). -/
def execEorImm (v : Byte) (s : State) : Out := xorA (.immediate v) s

/-- EOR abs, opcode 4D (R226). -/
def execEorAbs (w : Word) (s : State) : Out := xorA (.absolute w) s

/-- EOR (zp),Y, opcode 51 (R226). -/
def execEorIndY (v : Byte) (s : State) : Out := xorA (.indirectY v) s

/-- EOR zp,X, opcode 55 (R226). -/
def execEorZpX (v : Byte) (s : State) : Out := xorA (.zeroPageX v) s

/-- EOR abs,Y, opcode 59 (R226). -/
def execEorAbsY (w : Word) (s : State) : Out := xorA (.absoluteY w) s

/-- EOR abs,X, opcode 5D (R226). -/
def execEorAbsX (w : Word) (s : State) : Out := xorA (.absoluteX w) s

/-- BIT in every mode: A is unchanged, Z from the and, N and V from the operand byte (R227). -/
def testBits (o : Operand) (s : State) : Out :=
  withOperand o s fun m t => .next (advance o { t with p := bitFlags t.a m t.p })

/-- BIT zp, opcode 24 (R227). -/
def execBitZp (v : Byte) (s : State) : Out := testBits (.zeroPage v) s

/-- BIT abs, opcode 2C (R227). -/
def execBitAbs (w : Word) (s : State) : Out := testBits (.absolute w) s

/-- CMP in every mode (R228). -/
def compareA (o : Operand) (s : State) : Out := compare State.a o s

/-- CMP (zp,X), opcode C1 (R228). -/
def execCmpIndX (v : Byte) (s : State) : Out := compareA (.indirectX v) s

/-- CMP zp, opcode C5 (R228). -/
def execCmpZp (v : Byte) (s : State) : Out := compareA (.zeroPage v) s

/-- CMP #, opcode C9 (R228). -/
def execCmpImm (v : Byte) (s : State) : Out := compareA (.immediate v) s

/-- CMP abs, opcode CD (R228). -/
def execCmpAbs (w : Word) (s : State) : Out := compareA (.absolute w) s

/-- CMP (zp),Y, opcode D1 (R228). -/
def execCmpIndY (v : Byte) (s : State) : Out := compareA (.indirectY v) s

/-- CMP zp,X, opcode D5 (R228). -/
def execCmpZpX (v : Byte) (s : State) : Out := compareA (.zeroPageX v) s

/-- CMP abs,Y, opcode D9 (R228). -/
def execCmpAbsY (w : Word) (s : State) : Out := compareA (.absoluteY w) s

/-- CMP abs,X, opcode DD (R228). -/
def execCmpAbsX (w : Word) (s : State) : Out := compareA (.absoluteX w) s

/-- CPX in every mode (R229). -/
def compareX (o : Operand) (s : State) : Out := compare State.x o s

/-- CPX #, opcode E0 (R229). -/
def execCpxImm (v : Byte) (s : State) : Out := compareX (.immediate v) s

/-- CPX zp, opcode E4 (R229). -/
def execCpxZp (v : Byte) (s : State) : Out := compareX (.zeroPage v) s

/-- CPX abs, opcode EC (R229). -/
def execCpxAbs (w : Word) (s : State) : Out := compareX (.absolute w) s

/-- CPY in every mode (R230). -/
def compareY (o : Operand) (s : State) : Out := compare State.y o s

/-- CPY #, opcode C0 (R230). -/
def execCpyImm (v : Byte) (s : State) : Out := compareY (.immediate v) s

/-- CPY zp, opcode C4 (R230). -/
def execCpyZp (v : Byte) (s : State) : Out := compareY (.zeroPage v) s

/-- CPY abs, opcode CC (R230). -/
def execCpyAbs (w : Word) (s : State) : Out := compareY (.absolute w) s

/-- A read-modify-write instruction in a memory mode that does nothing further (R231, R232, 40 R178). -/
def modify (f : Byte → Byte → Byte × Byte) (o : Operand) (s : State) : Out :=
  withModified o s f fun _ t => .next (advance o t)

/-- INC in every mode (R231). -/
def increment (o : Operand) (s : State) : Out := modify incCore o s

/-- INC zp, opcode E6 (R231). -/
def execIncZp (v : Byte) (s : State) : Out := increment (.zeroPage v) s

/-- INC abs, opcode EE (R231). -/
def execIncAbs (w : Word) (s : State) : Out := increment (.absolute w) s

/-- INC zp,X, opcode F6 (R231). -/
def execIncZpX (v : Byte) (s : State) : Out := increment (.zeroPageX v) s

/-- INC abs,X, opcode FE (R231). -/
def execIncAbsX (w : Word) (s : State) : Out := increment (.absoluteX w) s

/-- DEC in every mode (R232). -/
def decrement (o : Operand) (s : State) : Out := modify decCore o s

/-- DEC zp, opcode C6 (R232). -/
def execDecZp (v : Byte) (s : State) : Out := decrement (.zeroPage v) s

/-- DEC abs, opcode CE (R232). -/
def execDecAbs (w : Word) (s : State) : Out := decrement (.absolute w) s

/-- DEC zp,X, opcode D6 (R232). -/
def execDecZpX (v : Byte) (s : State) : Out := decrement (.zeroPageX v) s

/-- DEC abs,X, opcode DE (R232). -/
def execDecAbsX (w : Word) (s : State) : Out := decrement (.absoluteX w) s

/-- INX, opcode E8 (R233). -/
def execInx (s : State) : Out := implied { s with x := (incCore s.x s.p).1, p := (incCore s.x s.p).2 }

/-- INY, opcode C8 (R234). -/
def execIny (s : State) : Out := implied { s with y := (incCore s.y s.p).1, p := (incCore s.y s.p).2 }

/-- DEX, opcode CA (R235). -/
def execDex (s : State) : Out := implied { s with x := (decCore s.x s.p).1, p := (decCore s.x s.p).2 }

/-- DEY, opcode 88 (R236). -/
def execDey (s : State) : Out := implied { s with y := (decCore s.y s.p).1, p := (decCore s.y s.p).2 }

end Sys2Proof.Machine
end

