-- ==== Sys2Proof/Machine/Branch.lean ====
section
/-! DEFINITION. Branch, jump and subroutine instructions (44_branch_jump.md R250 to R261). -/

namespace Sys2Proof.Machine

/-- branch(cond) (R250): the displacement counts from pc_next; a branch taken charges one cycle, and one more when
the destination is on another page than pc_next. -/
def branch (cond : State → Bool) (o : Operand) (s : State) : Out :=
  withAddress o s fun ea t =>
    if cond t then
      .next { t with
        extra := t.extra + 1 + (if hi ea ≠ hi (pcNext o t) then 1 else 0)
        pc := ea }
    else .next (advance o t)

/-- BCC, opcode 90: taken when C is 0 (R251). -/
def execBcc (v : Byte) (s : State) : Out :=
  branch (fun t => !getFlag .C t.p) (.relative v) s

/-- BCS, opcode B0: taken when C is 1 (R252). -/
def execBcs (v : Byte) (s : State) : Out :=
  branch (fun t => getFlag .C t.p) (.relative v) s

/-- BEQ, opcode F0: taken when Z is 1 (R253). -/
def execBeq (v : Byte) (s : State) : Out :=
  branch (fun t => getFlag .Z t.p) (.relative v) s

/-- BNE, opcode D0: taken when Z is 0 (R254). -/
def execBne (v : Byte) (s : State) : Out :=
  branch (fun t => !getFlag .Z t.p) (.relative v) s

/-- BMI, opcode 30: taken when N is 1 (R255). -/
def execBmi (v : Byte) (s : State) : Out :=
  branch (fun t => getFlag .N t.p) (.relative v) s

/-- BPL, opcode 10: taken when N is 0 (R256). -/
def execBpl (v : Byte) (s : State) : Out :=
  branch (fun t => !getFlag .N t.p) (.relative v) s

/-- BVC, opcode 50: taken when V is 0 (R257). -/
def execBvc (v : Byte) (s : State) : Out :=
  branch (fun t => !getFlag .V t.p) (.relative v) s

/-- BVS, opcode 70: taken when V is 1 (R258). -/
def execBvs (v : Byte) (s : State) : Out :=
  branch (fun t => getFlag .V t.p) (.relative v) s

/-- JMP in both modes: pc takes the effective address (R259). -/
def jump (o : Operand) (s : State) : Out := withAddress o s fun ea t => .next { t with pc := ea }

/-- JMP abs, opcode 4C (R259). -/
def execJmpAbs (w : Word) (s : State) : Out := jump (.absolute w) s

/-- JMP (abs), opcode 6C (R259). -/
def execJmpInd (w : Word) (s : State) : Out := jump (.indirect w) s

/-- JSR, opcode 20: opaddr + 2, the address of the instruction's last byte, is pushed (R260). -/
def execJsr (w : Word) (s : State) : Out :=
  withAddress (.absolute w) s fun ea t => .next { push16 (t.pc + 1) t with pc := ea }

/-- RTS, opcode 60: the address popped, plus 1 (R261). -/
def execRts (s : State) : Out :=
  let r := pop16 s
  .next { r.2 with pc := r.1 + 1 }

end Sys2Proof.Machine
end

