-- ==== Sys2Proof/Machine/Shift.lean ====
section
/-! DEFINITION. Shift and rotate instructions (43_shift_rotate.md R240 to R244). -/

namespace Sys2Proof.Machine

/-- shift_op (R240): in Accumulator mode A is read and written and no bus access made; in a memory mode the byte at
ea is read, then the result written. The core writes Carry, the result gives Z and N. -/
def shiftOp (f : Byte → Byte → Byte × Byte) (o : Operand) (s : State) : Out :=
  match o with
  | .accumulator => .next (advance o { s with a := (withNZ f s.a s.p).1, p := (withNZ f s.a s.p).2 })
  | o => modify (withNZ f) o s

/-- ASL in every mode (R241). -/
def shiftLeft (o : Operand) (s : State) : Out := shiftOp aslCore o s

/-- ASL zp, opcode 06 (R241). -/
def execAslZp (v : Byte) (s : State) : Out := shiftLeft (.zeroPage v) s

/-- ASL A, opcode 0A (R241). -/
def execAslA (s : State) : Out := shiftLeft .accumulator s

/-- ASL abs, opcode 0E (R241). -/
def execAslAbs (w : Word) (s : State) : Out := shiftLeft (.absolute w) s

/-- ASL zp,X, opcode 16 (R241). -/
def execAslZpX (v : Byte) (s : State) : Out := shiftLeft (.zeroPageX v) s

/-- ASL abs,X, opcode 1E (R241). -/
def execAslAbsX (w : Word) (s : State) : Out := shiftLeft (.absoluteX w) s

/-- LSR in every mode (R242). -/
def shiftRight (o : Operand) (s : State) : Out := shiftOp lsrCore o s

/-- LSR zp, opcode 46 (R242). -/
def execLsrZp (v : Byte) (s : State) : Out := shiftRight (.zeroPage v) s

/-- LSR A, opcode 4A (R242). -/
def execLsrA (s : State) : Out := shiftRight .accumulator s

/-- LSR abs, opcode 4E (R242). -/
def execLsrAbs (w : Word) (s : State) : Out := shiftRight (.absolute w) s

/-- LSR zp,X, opcode 56 (R242). -/
def execLsrZpX (v : Byte) (s : State) : Out := shiftRight (.zeroPageX v) s

/-- LSR abs,X, opcode 5E (R242). -/
def execLsrAbsX (w : Word) (s : State) : Out := shiftRight (.absoluteX w) s

/-- ROL in every mode (R243). -/
def rotateLeft (o : Operand) (s : State) : Out := shiftOp rolCore o s

/-- ROL zp, opcode 26 (R243). -/
def execRolZp (v : Byte) (s : State) : Out := rotateLeft (.zeroPage v) s

/-- ROL A, opcode 2A (R243). -/
def execRolA (s : State) : Out := rotateLeft .accumulator s

/-- ROL abs, opcode 2E (R243). -/
def execRolAbs (w : Word) (s : State) : Out := rotateLeft (.absolute w) s

/-- ROL zp,X, opcode 36 (R243). -/
def execRolZpX (v : Byte) (s : State) : Out := rotateLeft (.zeroPageX v) s

/-- ROL abs,X, opcode 3E (R243). -/
def execRolAbsX (w : Word) (s : State) : Out := rotateLeft (.absoluteX w) s

/-- ROR in every mode (R244). -/
def rotateRight (o : Operand) (s : State) : Out := shiftOp rorCore o s

/-- ROR zp, opcode 66 (R244). -/
def execRorZp (v : Byte) (s : State) : Out := rotateRight (.zeroPage v) s

/-- ROR A, opcode 6A (R244). -/
def execRorA (s : State) : Out := rotateRight .accumulator s

/-- ROR abs, opcode 6E (R244). -/
def execRorAbs (w : Word) (s : State) : Out := rotateRight (.absolute w) s

/-- ROR zp,X, opcode 76 (R244). -/
def execRorZpX (v : Byte) (s : State) : Out := rotateRight (.zeroPageX v) s

/-- ROR abs,X, opcode 7E (R244). -/
def execRorAbsX (w : Word) (s : State) : Out := rotateRight (.absoluteX w) s

end Sys2Proof.Machine
end

