-- ==== Sys2Proof/Machine/System.lean ====
section
/-! DEFINITION. Stack, flag and system instructions (45_stack_flag_system.md R270 to R283). -/

namespace Sys2Proof.Machine

/-- PHA, opcode 48 (R270). -/
def execPha (s : State) : Out := implied (push s.a s)

/-- PLA, opcode 68: Z and N follow the byte pulled (R271). -/
def execPla (s : State) : Out :=
  let r := pop s
  implied { r.2 with a := r.1, p := setNZ r.1 r.2.p }

/-- PHP, opcode 08: the pushed copy has Break and bit 5 set; P is unchanged (R272). -/
def execPhp (s : State) : Out := implied (push (phpByte s.p) s)

/-- PLP, opcode 28: Break cleared and bit 5 set in the P pulled (R273). -/
def execPlp (s : State) : Out :=
  let r := pop s
  implied { r.2 with p := pulledP r.1 }

/-- An instruction that writes one flag (R274 to R280). -/
def writeFlag (f : Flag) (b : Bool) (s : State) : Out := implied { s with p := setFlag f b s.p }

/-- CLC, opcode 18 (R274). -/
def execClc (s : State) : Out := writeFlag .C false s

/-- SEC, opcode 38 (R275). -/
def execSec (s : State) : Out := writeFlag .C true s

/-- CLI, opcode 58 (R276). -/
def execCli (s : State) : Out := writeFlag .I false s

/-- SEI, opcode 78 (R277). -/
def execSei (s : State) : Out := writeFlag .I true s

/-- CLD, opcode D8 (R278). -/
def execCld (s : State) : Out := writeFlag .D false s

/-- SED, opcode F8 (R279). -/
def execSed (s : State) : Out := writeFlag .D true s

/-- CLV, opcode B8 (R280). -/
def execClv (s : State) : Out := writeFlag .V false s

/-- NOP, opcode EA (R281). -/
def execNop (s : State) : Out := implied s

/-- BRK, opcode 00: the software trap, taken whatever I is (R282, 60 R337). -/
def execBrk (s : State) : Out := .next (brkEntry s)

/-- RTI, opcode 40 (R283). -/
def execRti (s : State) : Out := .next (returnFromException s)

end Sys2Proof.Machine
end

