-- ==== Sys2Proof/Machine/Undocumented.lean ====
section
/-! DEFINITION. The undocumented instructions with a meaning (46_undocumented.md R290 to R300). The byte EB, SBC #, stands with SBC in
Arithmetic.lean. -/

namespace Sys2Proof.Machine

/-- LAX in every mode: one read, into A and X (R291). -/
def loadAX (o : Operand) (s : State) : Out :=
  withOperand o s fun m t => .next (advance o { t with a := m, x := m, p := setNZ m t.p })

/-- LAX (zp,X), opcode A3 (R291). -/
def execLaxIndX (v : Byte) (s : State) : Out := loadAX (.indirectX v) s

/-- LAX zp, opcode A7 (R291). -/
def execLaxZp (v : Byte) (s : State) : Out := loadAX (.zeroPage v) s

/-- LAX abs, opcode AF (R291). -/
def execLaxAbs (w : Word) (s : State) : Out := loadAX (.absolute w) s

/-- LAX (zp),Y, opcode B3 (R291). -/
def execLaxIndY (v : Byte) (s : State) : Out := loadAX (.indirectY v) s

/-- LAX zp,Y, opcode B7 (R291). -/
def execLaxZpY (v : Byte) (s : State) : Out := loadAX (.zeroPageY v) s

/-- LAX abs,Y, opcode BF (R291). -/
def execLaxAbsY (w : Word) (s : State) : Out := loadAX (.absoluteY w) s

/-- SAX in every mode: A AND X is stored, no flag changes (R292). -/
def storeAX (o : Operand) (s : State) : Out := store (s.a &&& s.x) o s

/-- SAX (zp,X), opcode 83 (R292). -/
def execSaxIndX (v : Byte) (s : State) : Out := storeAX (.indirectX v) s

/-- SAX zp, opcode 87 (R292). -/
def execSaxZp (v : Byte) (s : State) : Out := storeAX (.zeroPage v) s

/-- SAX abs, opcode 8F (R292). -/
def execSaxAbs (w : Word) (s : State) : Out := storeAX (.absolute w) s

/-- SAX zp,Y, opcode 97 (R292). -/
def execSaxZpY (v : Byte) (s : State) : Out := storeAX (.zeroPageY v) s

/-- DCP in every mode: DEC, then CMP with the byte written (R293, R290). -/
def decrementCompare (o : Operand) (s : State) : Out :=
  withModified o s decCore fun r t => .next (advance o { t with p := cmpCore t.a r t.p })

/-- DCP (zp,X), opcode C3 (R293). -/
def execDcpIndX (v : Byte) (s : State) : Out := decrementCompare (.indirectX v) s

/-- DCP zp, opcode C7 (R293). -/
def execDcpZp (v : Byte) (s : State) : Out := decrementCompare (.zeroPage v) s

/-- DCP abs, opcode CF (R293). -/
def execDcpAbs (w : Word) (s : State) : Out := decrementCompare (.absolute w) s

/-- DCP (zp),Y, opcode D3 (R293). -/
def execDcpIndY (v : Byte) (s : State) : Out := decrementCompare (.indirectY v) s

/-- DCP zp,X, opcode D7 (R293). -/
def execDcpZpX (v : Byte) (s : State) : Out := decrementCompare (.zeroPageX v) s

/-- DCP abs,Y, opcode DB (R293). -/
def execDcpAbsY (w : Word) (s : State) : Out := decrementCompare (.absoluteY w) s

/-- DCP abs,X, opcode DF (R293). -/
def execDcpAbsX (w : Word) (s : State) : Out := decrementCompare (.absoluteX w) s

/-- A composite: a read-modify-write with its flags, then an accumulator operation on the byte written, not read
again (R290). -/
def composite (f : Byte → Byte → Byte × Byte) (g : Byte → Byte → Byte → Byte × Byte) (o : Operand) (s : State) : Out :=
  withModified o s f fun r t => .next (advance o { t with a := (g t.a r t.p).1, p := (g t.a r t.p).2 })

/-- ISB in every mode: INC, then SBC (R294). -/
def incrementSubtract (o : Operand) (s : State) : Out := composite incCore sbcCore o s

/-- ISB (zp,X), opcode E3 (R294). -/
def execIsbIndX (v : Byte) (s : State) : Out := incrementSubtract (.indirectX v) s

/-- ISB zp, opcode E7 (R294). -/
def execIsbZp (v : Byte) (s : State) : Out := incrementSubtract (.zeroPage v) s

/-- ISB abs, opcode EF (R294). -/
def execIsbAbs (w : Word) (s : State) : Out := incrementSubtract (.absolute w) s

/-- ISB (zp),Y, opcode F3 (R294). -/
def execIsbIndY (v : Byte) (s : State) : Out := incrementSubtract (.indirectY v) s

/-- ISB zp,X, opcode F7 (R294). -/
def execIsbZpX (v : Byte) (s : State) : Out := incrementSubtract (.zeroPageX v) s

/-- ISB abs,Y, opcode FB (R294). -/
def execIsbAbsY (w : Word) (s : State) : Out := incrementSubtract (.absoluteY w) s

/-- ISB abs,X, opcode FF (R294). -/
def execIsbAbsX (w : Word) (s : State) : Out := incrementSubtract (.absoluteX w) s

/-- SLO in every mode: ASL, then ORA (R295). -/
def shiftLeftOr (o : Operand) (s : State) : Out := composite (withNZ aslCore) oraCore o s

/-- SLO (zp,X), opcode 03 (R295). -/
def execSloIndX (v : Byte) (s : State) : Out := shiftLeftOr (.indirectX v) s

/-- SLO zp, opcode 07 (R295). -/
def execSloZp (v : Byte) (s : State) : Out := shiftLeftOr (.zeroPage v) s

/-- SLO abs, opcode 0F (R295). -/
def execSloAbs (w : Word) (s : State) : Out := shiftLeftOr (.absolute w) s

/-- SLO (zp),Y, opcode 13 (R295). -/
def execSloIndY (v : Byte) (s : State) : Out := shiftLeftOr (.indirectY v) s

/-- SLO zp,X, opcode 17 (R295). -/
def execSloZpX (v : Byte) (s : State) : Out := shiftLeftOr (.zeroPageX v) s

/-- SLO abs,Y, opcode 1B (R295). -/
def execSloAbsY (w : Word) (s : State) : Out := shiftLeftOr (.absoluteY w) s

/-- SLO abs,X, opcode 1F (R295). -/
def execSloAbsX (w : Word) (s : State) : Out := shiftLeftOr (.absoluteX w) s

/-- RLA in every mode: ROL, then AND (R296). -/
def rotateLeftAnd (o : Operand) (s : State) : Out := composite (withNZ rolCore) andCore o s

/-- RLA (zp,X), opcode 23 (R296). -/
def execRlaIndX (v : Byte) (s : State) : Out := rotateLeftAnd (.indirectX v) s

/-- RLA zp, opcode 27 (R296). -/
def execRlaZp (v : Byte) (s : State) : Out := rotateLeftAnd (.zeroPage v) s

/-- RLA abs, opcode 2F (R296). -/
def execRlaAbs (w : Word) (s : State) : Out := rotateLeftAnd (.absolute w) s

/-- RLA (zp),Y, opcode 33 (R296). -/
def execRlaIndY (v : Byte) (s : State) : Out := rotateLeftAnd (.indirectY v) s

/-- RLA zp,X, opcode 37 (R296). -/
def execRlaZpX (v : Byte) (s : State) : Out := rotateLeftAnd (.zeroPageX v) s

/-- RLA abs,Y, opcode 3B (R296). -/
def execRlaAbsY (w : Word) (s : State) : Out := rotateLeftAnd (.absoluteY w) s

/-- RLA abs,X, opcode 3F (R296). -/
def execRlaAbsX (w : Word) (s : State) : Out := rotateLeftAnd (.absoluteX w) s

/-- SRE in every mode: LSR, then EOR (R297). -/
def shiftRightXor (o : Operand) (s : State) : Out := composite (withNZ lsrCore) eorCore o s

/-- SRE (zp,X), opcode 43 (R297). -/
def execSreIndX (v : Byte) (s : State) : Out := shiftRightXor (.indirectX v) s

/-- SRE zp, opcode 47 (R297). -/
def execSreZp (v : Byte) (s : State) : Out := shiftRightXor (.zeroPage v) s

/-- SRE abs, opcode 4F (R297). -/
def execSreAbs (w : Word) (s : State) : Out := shiftRightXor (.absolute w) s

/-- SRE (zp),Y, opcode 53 (R297). -/
def execSreIndY (v : Byte) (s : State) : Out := shiftRightXor (.indirectY v) s

/-- SRE zp,X, opcode 57 (R297). -/
def execSreZpX (v : Byte) (s : State) : Out := shiftRightXor (.zeroPageX v) s

/-- SRE abs,Y, opcode 5B (R297). -/
def execSreAbsY (w : Word) (s : State) : Out := shiftRightXor (.absoluteY w) s

/-- SRE abs,X, opcode 5F (R297). -/
def execSreAbsX (w : Word) (s : State) : Out := shiftRightXor (.absoluteX w) s

/-- RRA in every mode: ROR, then ADC with the Carry ROR wrote (R298). -/
def rotateRightAdd (o : Operand) (s : State) : Out := composite (withNZ rorCore) adcCore o s

/-- RRA (zp,X), opcode 63 (R298). -/
def execRraIndX (v : Byte) (s : State) : Out := rotateRightAdd (.indirectX v) s

/-- RRA zp, opcode 67 (R298). -/
def execRraZp (v : Byte) (s : State) : Out := rotateRightAdd (.zeroPage v) s

/-- RRA abs, opcode 6F (R298). -/
def execRraAbs (w : Word) (s : State) : Out := rotateRightAdd (.absolute w) s

/-- RRA (zp),Y, opcode 73 (R298). -/
def execRraIndY (v : Byte) (s : State) : Out := rotateRightAdd (.indirectY v) s

/-- RRA zp,X, opcode 77 (R298). -/
def execRraZpX (v : Byte) (s : State) : Out := rotateRightAdd (.zeroPageX v) s

/-- RRA abs,Y, opcode 7B (R298). -/
def execRraAbsY (w : Word) (s : State) : Out := rotateRightAdd (.absoluteY w) s

/-- RRA abs,X, opcode 7F (R298). -/
def execRraAbsX (w : Word) (s : State) : Out := rotateRightAdd (.absoluteX w) s

/-- An undocumented NOP with an operand: one read of ea, whose byte is discarded (R299). -/
def nopRead (o : Operand) (s : State) : Out := withOperand o s fun _ t => .next (advance o t)

/-- NOP zp, opcode 04 (R299). -/
def execNopZp04 (v : Byte) (s : State) : Out := nopRead (.zeroPage v) s

/-- NOP abs, opcode 0C (R299). -/
def execNopAbs (w : Word) (s : State) : Out := nopRead (.absolute w) s

/-- NOP zp,X, opcode 14 (R299). -/
def execNopZpX14 (v : Byte) (s : State) : Out := nopRead (.zeroPageX v) s

/-- NOP, opcode 1A: as EA (R299). -/
def execNop1A (s : State) : Out := implied s

/-- NOP abs,X, opcode 1C (R299). -/
def execNopAbsX1C (w : Word) (s : State) : Out := nopRead (.absoluteX w) s

/-- NOP zp,X, opcode 34 (R299). -/
def execNopZpX34 (v : Byte) (s : State) : Out := nopRead (.zeroPageX v) s

/-- NOP, opcode 3A: as EA (R299). -/
def execNop3A (s : State) : Out := implied s

/-- NOP abs,X, opcode 3C (R299). -/
def execNopAbsX3C (w : Word) (s : State) : Out := nopRead (.absoluteX w) s

/-- NOP zp, opcode 44 (R299). -/
def execNopZp44 (v : Byte) (s : State) : Out := nopRead (.zeroPage v) s

/-- NOP zp,X, opcode 54 (R299). -/
def execNopZpX54 (v : Byte) (s : State) : Out := nopRead (.zeroPageX v) s

/-- NOP, opcode 5A: as EA (R299). -/
def execNop5A (s : State) : Out := implied s

/-- NOP abs,X, opcode 5C (R299). -/
def execNopAbsX5C (w : Word) (s : State) : Out := nopRead (.absoluteX w) s

/-- NOP zp, opcode 64 (R299). -/
def execNopZp64 (v : Byte) (s : State) : Out := nopRead (.zeroPage v) s

/-- NOP zp,X, opcode 74 (R299). -/
def execNopZpX74 (v : Byte) (s : State) : Out := nopRead (.zeroPageX v) s

/-- NOP, opcode 7A: as EA (R299). -/
def execNop7A (s : State) : Out := implied s

/-- NOP abs,X, opcode 7C (R299). -/
def execNopAbsX7C (w : Word) (s : State) : Out := nopRead (.absoluteX w) s

/-- NOP #, opcode 80 (R299). -/
def execNopImm80 (v : Byte) (s : State) : Out := nopRead (.immediate v) s

/-- NOP #, opcode 82 (R299). -/
def execNopImm82 (v : Byte) (s : State) : Out := nopRead (.immediate v) s

/-- NOP #, opcode 89 (R299). -/
def execNopImm89 (v : Byte) (s : State) : Out := nopRead (.immediate v) s

/-- NOP #, opcode C2 (R299). -/
def execNopImmC2 (v : Byte) (s : State) : Out := nopRead (.immediate v) s

/-- NOP zp,X, opcode D4 (R299). -/
def execNopZpXD4 (v : Byte) (s : State) : Out := nopRead (.zeroPageX v) s

/-- NOP, opcode DA: as EA (R299). -/
def execNopDA (s : State) : Out := implied s

/-- NOP abs,X, opcode DC (R299). -/
def execNopAbsXDC (w : Word) (s : State) : Out := nopRead (.absoluteX w) s

/-- NOP #, opcode E2 (R299). -/
def execNopImmE2 (v : Byte) (s : State) : Out := nopRead (.immediate v) s

/-- NOP zp,X, opcode F4 (R299). -/
def execNopZpXF4 (v : Byte) (s : State) : Out := nopRead (.zeroPageX v) s

/-- NOP, opcode FA: as EA (R299). -/
def execNopFA (s : State) : Out := implied s

/-- NOP abs,X, opcode FC (R299). -/
def execNopAbsXFC (w : Word) (s : State) : Out := nopRead (.absoluteX w) s

end Sys2Proof.Machine
end

