-- ==== Sys2Proof/Machine/Unsupported.lean ====
section
/-! DEFINITION. The unsupported instructions (47_unsupported.md R310 to R322): each stops the machine with the fault UnsupportedInstruction
before any operand is read, whatever its operand bytes are. The spec names the fault and gives no other effect. -/

namespace Sys2Proof.Machine

/-- raise UnsupportedInstruction(op, opaddr), pc being opaddr + 1 (R310, 60 R331). -/
def unsupported (op : Byte) (s : State) : Out := raise (.unsupportedInstruction op (s.pc - 1)) s

/-- JAM, opcode 02 (R322). -/
def execJam02 (s : State) : Out := unsupported 0x02 s

/-- ANC #, opcode 0B (R311). -/
def execAncImm0B (s : State) : Out := unsupported 0x0B s

/-- JAM, opcode 12 (R322). -/
def execJam12 (s : State) : Out := unsupported 0x12 s

/-- JAM, opcode 22 (R322). -/
def execJam22 (s : State) : Out := unsupported 0x22 s

/-- ANC #, opcode 2B (R311). -/
def execAncImm2B (s : State) : Out := unsupported 0x2B s

/-- JAM, opcode 32 (R322). -/
def execJam32 (s : State) : Out := unsupported 0x32 s

/-- JAM, opcode 42 (R322). -/
def execJam42 (s : State) : Out := unsupported 0x42 s

/-- ASR #, opcode 4B (R313). -/
def execAsrImm (s : State) : Out := unsupported 0x4B s

/-- JAM, opcode 52 (R322). -/
def execJam52 (s : State) : Out := unsupported 0x52 s

/-- JAM, opcode 62 (R322). -/
def execJam62 (s : State) : Out := unsupported 0x62 s

/-- ARR #, opcode 6B (R312). -/
def execArrImm (s : State) : Out := unsupported 0x6B s

/-- JAM, opcode 72 (R322). -/
def execJam72 (s : State) : Out := unsupported 0x72 s

/-- ANE #, opcode 8B (R320). -/
def execAneImm (s : State) : Out := unsupported 0x8B s

/-- JAM, opcode 92 (R322). -/
def execJam92 (s : State) : Out := unsupported 0x92 s

/-- SHA (zp),Y, opcode 93 (R315). -/
def execShaIndY (s : State) : Out := unsupported 0x93 s

/-- SHS abs,Y, opcode 9B (R321). -/
def execShsAbsY (s : State) : Out := unsupported 0x9B s

/-- SHY abs,X, opcode 9C (R319). -/
def execShyAbsX (s : State) : Out := unsupported 0x9C s

/-- SHX abs,Y, opcode 9E (R318). -/
def execShxAbsY (s : State) : Out := unsupported 0x9E s

/-- SHA abs,Y, opcode 9F (R315). -/
def execShaAbsY (s : State) : Out := unsupported 0x9F s

/-- LXA #, opcode AB (R314). -/
def execLxaImm (s : State) : Out := unsupported 0xAB s

/-- JAM, opcode B2 (R322). -/
def execJamB2 (s : State) : Out := unsupported 0xB2 s

/-- LAE abs,Y, opcode BB (R317). -/
def execLaeAbsY (s : State) : Out := unsupported 0xBB s

/-- SBX #, opcode CB (R316). -/
def execSbxImm (s : State) : Out := unsupported 0xCB s

/-- JAM, opcode D2 (R322). -/
def execJamD2 (s : State) : Out := unsupported 0xD2 s

/-- JAM, opcode F2 (R322). -/
def execJamF2 (s : State) : Out := unsupported 0xF2 s

end Sys2Proof.Machine
end

