-- ==== Sys2Proof/Machine/Dispatch.lean ====
section
/-! DEFINITION. Dispatch: the meaning of each instruction (40_execution_and_addressing.md R156). exec runs steps 6 and 7 of
the iteration on a machine whose pc is opaddr + 1 and whose extra is 0. -/

namespace Sys2Proof.Machine

def exec (i : Instr) (s : State) : Host.Outcome State Fault Refusal :=
  match i with
  | .brk => Sys2Proof.Machine.execBrk s
  | .oraIndX v => Sys2Proof.Machine.execOraIndX v s
  | .jam02 => Sys2Proof.Machine.execJam02 s
  | .sloIndX v => Sys2Proof.Machine.execSloIndX v s
  | .nopZp04 v => Sys2Proof.Machine.execNopZp04 v s
  | .oraZp v => Sys2Proof.Machine.execOraZp v s
  | .aslZp v => Sys2Proof.Machine.execAslZp v s
  | .sloZp v => Sys2Proof.Machine.execSloZp v s
  | .php => Sys2Proof.Machine.execPhp s
  | .oraImm v => Sys2Proof.Machine.execOraImm v s
  | .aslA => Sys2Proof.Machine.execAslA s
  | .ancImm0B _v => Sys2Proof.Machine.execAncImm0B s
  | .nopAbs w => Sys2Proof.Machine.execNopAbs w s
  | .oraAbs w => Sys2Proof.Machine.execOraAbs w s
  | .aslAbs w => Sys2Proof.Machine.execAslAbs w s
  | .sloAbs w => Sys2Proof.Machine.execSloAbs w s
  | .bpl v => Sys2Proof.Machine.execBpl v s
  | .oraIndY v => Sys2Proof.Machine.execOraIndY v s
  | .jam12 => Sys2Proof.Machine.execJam12 s
  | .sloIndY v => Sys2Proof.Machine.execSloIndY v s
  | .nopZpX14 v => Sys2Proof.Machine.execNopZpX14 v s
  | .oraZpX v => Sys2Proof.Machine.execOraZpX v s
  | .aslZpX v => Sys2Proof.Machine.execAslZpX v s
  | .sloZpX v => Sys2Proof.Machine.execSloZpX v s
  | .clc => Sys2Proof.Machine.execClc s
  | .oraAbsY w => Sys2Proof.Machine.execOraAbsY w s
  | .nop1A => Sys2Proof.Machine.execNop1A s
  | .sloAbsY w => Sys2Proof.Machine.execSloAbsY w s
  | .nopAbsX1C w => Sys2Proof.Machine.execNopAbsX1C w s
  | .oraAbsX w => Sys2Proof.Machine.execOraAbsX w s
  | .aslAbsX w => Sys2Proof.Machine.execAslAbsX w s
  | .sloAbsX w => Sys2Proof.Machine.execSloAbsX w s
  | .jsr w => Sys2Proof.Machine.execJsr w s
  | .andIndX v => Sys2Proof.Machine.execAndIndX v s
  | .jam22 => Sys2Proof.Machine.execJam22 s
  | .rlaIndX v => Sys2Proof.Machine.execRlaIndX v s
  | .bitZp v => Sys2Proof.Machine.execBitZp v s
  | .andZp v => Sys2Proof.Machine.execAndZp v s
  | .rolZp v => Sys2Proof.Machine.execRolZp v s
  | .rlaZp v => Sys2Proof.Machine.execRlaZp v s
  | .plp => Sys2Proof.Machine.execPlp s
  | .andImm v => Sys2Proof.Machine.execAndImm v s
  | .rolA => Sys2Proof.Machine.execRolA s
  | .ancImm2B _v => Sys2Proof.Machine.execAncImm2B s
  | .bitAbs w => Sys2Proof.Machine.execBitAbs w s
  | .andAbs w => Sys2Proof.Machine.execAndAbs w s
  | .rolAbs w => Sys2Proof.Machine.execRolAbs w s
  | .rlaAbs w => Sys2Proof.Machine.execRlaAbs w s
  | .bmi v => Sys2Proof.Machine.execBmi v s
  | .andIndY v => Sys2Proof.Machine.execAndIndY v s
  | .jam32 => Sys2Proof.Machine.execJam32 s
  | .rlaIndY v => Sys2Proof.Machine.execRlaIndY v s
  | .nopZpX34 v => Sys2Proof.Machine.execNopZpX34 v s
  | .andZpX v => Sys2Proof.Machine.execAndZpX v s
  | .rolZpX v => Sys2Proof.Machine.execRolZpX v s
  | .rlaZpX v => Sys2Proof.Machine.execRlaZpX v s
  | .sec => Sys2Proof.Machine.execSec s
  | .andAbsY w => Sys2Proof.Machine.execAndAbsY w s
  | .nop3A => Sys2Proof.Machine.execNop3A s
  | .rlaAbsY w => Sys2Proof.Machine.execRlaAbsY w s
  | .nopAbsX3C w => Sys2Proof.Machine.execNopAbsX3C w s
  | .andAbsX w => Sys2Proof.Machine.execAndAbsX w s
  | .rolAbsX w => Sys2Proof.Machine.execRolAbsX w s
  | .rlaAbsX w => Sys2Proof.Machine.execRlaAbsX w s
  | .rti => Sys2Proof.Machine.execRti s
  | .eorIndX v => Sys2Proof.Machine.execEorIndX v s
  | .jam42 => Sys2Proof.Machine.execJam42 s
  | .sreIndX v => Sys2Proof.Machine.execSreIndX v s
  | .nopZp44 v => Sys2Proof.Machine.execNopZp44 v s
  | .eorZp v => Sys2Proof.Machine.execEorZp v s
  | .lsrZp v => Sys2Proof.Machine.execLsrZp v s
  | .sreZp v => Sys2Proof.Machine.execSreZp v s
  | .pha => Sys2Proof.Machine.execPha s
  | .eorImm v => Sys2Proof.Machine.execEorImm v s
  | .lsrA => Sys2Proof.Machine.execLsrA s
  | .asrImm _v => Sys2Proof.Machine.execAsrImm s
  | .jmpAbs w => Sys2Proof.Machine.execJmpAbs w s
  | .eorAbs w => Sys2Proof.Machine.execEorAbs w s
  | .lsrAbs w => Sys2Proof.Machine.execLsrAbs w s
  | .sreAbs w => Sys2Proof.Machine.execSreAbs w s
  | .bvc v => Sys2Proof.Machine.execBvc v s
  | .eorIndY v => Sys2Proof.Machine.execEorIndY v s
  | .jam52 => Sys2Proof.Machine.execJam52 s
  | .sreIndY v => Sys2Proof.Machine.execSreIndY v s
  | .nopZpX54 v => Sys2Proof.Machine.execNopZpX54 v s
  | .eorZpX v => Sys2Proof.Machine.execEorZpX v s
  | .lsrZpX v => Sys2Proof.Machine.execLsrZpX v s
  | .sreZpX v => Sys2Proof.Machine.execSreZpX v s
  | .cli => Sys2Proof.Machine.execCli s
  | .eorAbsY w => Sys2Proof.Machine.execEorAbsY w s
  | .nop5A => Sys2Proof.Machine.execNop5A s
  | .sreAbsY w => Sys2Proof.Machine.execSreAbsY w s
  | .nopAbsX5C w => Sys2Proof.Machine.execNopAbsX5C w s
  | .eorAbsX w => Sys2Proof.Machine.execEorAbsX w s
  | .lsrAbsX w => Sys2Proof.Machine.execLsrAbsX w s
  | .sreAbsX w => Sys2Proof.Machine.execSreAbsX w s
  | .rts => Sys2Proof.Machine.execRts s
  | .adcIndX v => Sys2Proof.Machine.execAdcIndX v s
  | .jam62 => Sys2Proof.Machine.execJam62 s
  | .rraIndX v => Sys2Proof.Machine.execRraIndX v s
  | .nopZp64 v => Sys2Proof.Machine.execNopZp64 v s
  | .adcZp v => Sys2Proof.Machine.execAdcZp v s
  | .rorZp v => Sys2Proof.Machine.execRorZp v s
  | .rraZp v => Sys2Proof.Machine.execRraZp v s
  | .pla => Sys2Proof.Machine.execPla s
  | .adcImm v => Sys2Proof.Machine.execAdcImm v s
  | .rorA => Sys2Proof.Machine.execRorA s
  | .arrImm _v => Sys2Proof.Machine.execArrImm s
  | .jmpInd w => Sys2Proof.Machine.execJmpInd w s
  | .adcAbs w => Sys2Proof.Machine.execAdcAbs w s
  | .rorAbs w => Sys2Proof.Machine.execRorAbs w s
  | .rraAbs w => Sys2Proof.Machine.execRraAbs w s
  | .bvs v => Sys2Proof.Machine.execBvs v s
  | .adcIndY v => Sys2Proof.Machine.execAdcIndY v s
  | .jam72 => Sys2Proof.Machine.execJam72 s
  | .rraIndY v => Sys2Proof.Machine.execRraIndY v s
  | .nopZpX74 v => Sys2Proof.Machine.execNopZpX74 v s
  | .adcZpX v => Sys2Proof.Machine.execAdcZpX v s
  | .rorZpX v => Sys2Proof.Machine.execRorZpX v s
  | .rraZpX v => Sys2Proof.Machine.execRraZpX v s
  | .sei => Sys2Proof.Machine.execSei s
  | .adcAbsY w => Sys2Proof.Machine.execAdcAbsY w s
  | .nop7A => Sys2Proof.Machine.execNop7A s
  | .rraAbsY w => Sys2Proof.Machine.execRraAbsY w s
  | .nopAbsX7C w => Sys2Proof.Machine.execNopAbsX7C w s
  | .adcAbsX w => Sys2Proof.Machine.execAdcAbsX w s
  | .rorAbsX w => Sys2Proof.Machine.execRorAbsX w s
  | .rraAbsX w => Sys2Proof.Machine.execRraAbsX w s
  | .nopImm80 v => Sys2Proof.Machine.execNopImm80 v s
  | .staIndX v => Sys2Proof.Machine.execStaIndX v s
  | .nopImm82 v => Sys2Proof.Machine.execNopImm82 v s
  | .saxIndX v => Sys2Proof.Machine.execSaxIndX v s
  | .styZp v => Sys2Proof.Machine.execStyZp v s
  | .staZp v => Sys2Proof.Machine.execStaZp v s
  | .stxZp v => Sys2Proof.Machine.execStxZp v s
  | .saxZp v => Sys2Proof.Machine.execSaxZp v s
  | .dey => Sys2Proof.Machine.execDey s
  | .nopImm89 v => Sys2Proof.Machine.execNopImm89 v s
  | .txa => Sys2Proof.Machine.execTxa s
  | .aneImm _v => Sys2Proof.Machine.execAneImm s
  | .styAbs w => Sys2Proof.Machine.execStyAbs w s
  | .staAbs w => Sys2Proof.Machine.execStaAbs w s
  | .stxAbs w => Sys2Proof.Machine.execStxAbs w s
  | .saxAbs w => Sys2Proof.Machine.execSaxAbs w s
  | .bcc v => Sys2Proof.Machine.execBcc v s
  | .staIndY v => Sys2Proof.Machine.execStaIndY v s
  | .jam92 => Sys2Proof.Machine.execJam92 s
  | .shaIndY _v => Sys2Proof.Machine.execShaIndY s
  | .styZpX v => Sys2Proof.Machine.execStyZpX v s
  | .staZpX v => Sys2Proof.Machine.execStaZpX v s
  | .stxZpY v => Sys2Proof.Machine.execStxZpY v s
  | .saxZpY v => Sys2Proof.Machine.execSaxZpY v s
  | .tya => Sys2Proof.Machine.execTya s
  | .staAbsY w => Sys2Proof.Machine.execStaAbsY w s
  | .txs => Sys2Proof.Machine.execTxs s
  | .shsAbsY _w => Sys2Proof.Machine.execShsAbsY s
  | .shyAbsX _w => Sys2Proof.Machine.execShyAbsX s
  | .staAbsX w => Sys2Proof.Machine.execStaAbsX w s
  | .shxAbsY _w => Sys2Proof.Machine.execShxAbsY s
  | .shaAbsY _w => Sys2Proof.Machine.execShaAbsY s
  | .ldyImm v => Sys2Proof.Machine.execLdyImm v s
  | .ldaIndX v => Sys2Proof.Machine.execLdaIndX v s
  | .ldxImm v => Sys2Proof.Machine.execLdxImm v s
  | .laxIndX v => Sys2Proof.Machine.execLaxIndX v s
  | .ldyZp v => Sys2Proof.Machine.execLdyZp v s
  | .ldaZp v => Sys2Proof.Machine.execLdaZp v s
  | .ldxZp v => Sys2Proof.Machine.execLdxZp v s
  | .laxZp v => Sys2Proof.Machine.execLaxZp v s
  | .tay => Sys2Proof.Machine.execTay s
  | .ldaImm v => Sys2Proof.Machine.execLdaImm v s
  | .tax => Sys2Proof.Machine.execTax s
  | .lxaImm _v => Sys2Proof.Machine.execLxaImm s
  | .ldyAbs w => Sys2Proof.Machine.execLdyAbs w s
  | .ldaAbs w => Sys2Proof.Machine.execLdaAbs w s
  | .ldxAbs w => Sys2Proof.Machine.execLdxAbs w s
  | .laxAbs w => Sys2Proof.Machine.execLaxAbs w s
  | .bcs v => Sys2Proof.Machine.execBcs v s
  | .ldaIndY v => Sys2Proof.Machine.execLdaIndY v s
  | .jamB2 => Sys2Proof.Machine.execJamB2 s
  | .laxIndY v => Sys2Proof.Machine.execLaxIndY v s
  | .ldyZpX v => Sys2Proof.Machine.execLdyZpX v s
  | .ldaZpX v => Sys2Proof.Machine.execLdaZpX v s
  | .ldxZpY v => Sys2Proof.Machine.execLdxZpY v s
  | .laxZpY v => Sys2Proof.Machine.execLaxZpY v s
  | .clv => Sys2Proof.Machine.execClv s
  | .ldaAbsY w => Sys2Proof.Machine.execLdaAbsY w s
  | .tsx => Sys2Proof.Machine.execTsx s
  | .laeAbsY _w => Sys2Proof.Machine.execLaeAbsY s
  | .ldyAbsX w => Sys2Proof.Machine.execLdyAbsX w s
  | .ldaAbsX w => Sys2Proof.Machine.execLdaAbsX w s
  | .ldxAbsY w => Sys2Proof.Machine.execLdxAbsY w s
  | .laxAbsY w => Sys2Proof.Machine.execLaxAbsY w s
  | .cpyImm v => Sys2Proof.Machine.execCpyImm v s
  | .cmpIndX v => Sys2Proof.Machine.execCmpIndX v s
  | .nopImmC2 v => Sys2Proof.Machine.execNopImmC2 v s
  | .dcpIndX v => Sys2Proof.Machine.execDcpIndX v s
  | .cpyZp v => Sys2Proof.Machine.execCpyZp v s
  | .cmpZp v => Sys2Proof.Machine.execCmpZp v s
  | .decZp v => Sys2Proof.Machine.execDecZp v s
  | .dcpZp v => Sys2Proof.Machine.execDcpZp v s
  | .iny => Sys2Proof.Machine.execIny s
  | .cmpImm v => Sys2Proof.Machine.execCmpImm v s
  | .dex => Sys2Proof.Machine.execDex s
  | .sbxImm _v => Sys2Proof.Machine.execSbxImm s
  | .cpyAbs w => Sys2Proof.Machine.execCpyAbs w s
  | .cmpAbs w => Sys2Proof.Machine.execCmpAbs w s
  | .decAbs w => Sys2Proof.Machine.execDecAbs w s
  | .dcpAbs w => Sys2Proof.Machine.execDcpAbs w s
  | .bne v => Sys2Proof.Machine.execBne v s
  | .cmpIndY v => Sys2Proof.Machine.execCmpIndY v s
  | .jamD2 => Sys2Proof.Machine.execJamD2 s
  | .dcpIndY v => Sys2Proof.Machine.execDcpIndY v s
  | .nopZpXD4 v => Sys2Proof.Machine.execNopZpXD4 v s
  | .cmpZpX v => Sys2Proof.Machine.execCmpZpX v s
  | .decZpX v => Sys2Proof.Machine.execDecZpX v s
  | .dcpZpX v => Sys2Proof.Machine.execDcpZpX v s
  | .cld => Sys2Proof.Machine.execCld s
  | .cmpAbsY w => Sys2Proof.Machine.execCmpAbsY w s
  | .nopDA => Sys2Proof.Machine.execNopDA s
  | .dcpAbsY w => Sys2Proof.Machine.execDcpAbsY w s
  | .nopAbsXDC w => Sys2Proof.Machine.execNopAbsXDC w s
  | .cmpAbsX w => Sys2Proof.Machine.execCmpAbsX w s
  | .decAbsX w => Sys2Proof.Machine.execDecAbsX w s
  | .dcpAbsX w => Sys2Proof.Machine.execDcpAbsX w s
  | .cpxImm v => Sys2Proof.Machine.execCpxImm v s
  | .sbcIndX v => Sys2Proof.Machine.execSbcIndX v s
  | .nopImmE2 v => Sys2Proof.Machine.execNopImmE2 v s
  | .isbIndX v => Sys2Proof.Machine.execIsbIndX v s
  | .cpxZp v => Sys2Proof.Machine.execCpxZp v s
  | .sbcZp v => Sys2Proof.Machine.execSbcZp v s
  | .incZp v => Sys2Proof.Machine.execIncZp v s
  | .isbZp v => Sys2Proof.Machine.execIsbZp v s
  | .inx => Sys2Proof.Machine.execInx s
  | .sbcImm v => Sys2Proof.Machine.execSbcImm v s
  | .nop => Sys2Proof.Machine.execNop s
  | .sbcImmEB v => Sys2Proof.Machine.execSbcImmEB v s
  | .cpxAbs w => Sys2Proof.Machine.execCpxAbs w s
  | .sbcAbs w => Sys2Proof.Machine.execSbcAbs w s
  | .incAbs w => Sys2Proof.Machine.execIncAbs w s
  | .isbAbs w => Sys2Proof.Machine.execIsbAbs w s
  | .beq v => Sys2Proof.Machine.execBeq v s
  | .sbcIndY v => Sys2Proof.Machine.execSbcIndY v s
  | .jamF2 => Sys2Proof.Machine.execJamF2 s
  | .isbIndY v => Sys2Proof.Machine.execIsbIndY v s
  | .nopZpXF4 v => Sys2Proof.Machine.execNopZpXF4 v s
  | .sbcZpX v => Sys2Proof.Machine.execSbcZpX v s
  | .incZpX v => Sys2Proof.Machine.execIncZpX v s
  | .isbZpX v => Sys2Proof.Machine.execIsbZpX v s
  | .sed => Sys2Proof.Machine.execSed s
  | .sbcAbsY w => Sys2Proof.Machine.execSbcAbsY w s
  | .nopFA => Sys2Proof.Machine.execNopFA s
  | .isbAbsY w => Sys2Proof.Machine.execIsbAbsY w s
  | .nopAbsXFC w => Sys2Proof.Machine.execNopAbsXFC w s
  | .sbcAbsX w => Sys2Proof.Machine.execSbcAbsX w s
  | .incAbsX w => Sys2Proof.Machine.execIncAbsX w s
  | .isbAbsX w => Sys2Proof.Machine.execIsbAbsX w s

end Sys2Proof.Machine
end

