-- ==== Sys2Proof/Decode.lean ====
section
/-! DEFINITION. The opcode table and the decoder: the matrix of mnemonics and modes (30_encoding.md R128), the matrix of
base cycles and penalty classes (R129), lookup (R127), the operand formats F1 to F3 (R121 to R123), a decoder total on
every string of bytes that rejects by name, and the encoder written from the same rows. -/

namespace Sys2Proof

/-- A cell of the opcode matrix: the row's addressing mode, as the shape of its operand, with the instruction it
makes of that operand. -/
inductive Build where
  | impl (i : Instr)
  | acc (i : Instr)
  | imm (f : Byte → Instr)
  | zp (f : Byte → Instr)
  | zpX (f : Byte → Instr)
  | zpY (f : Byte → Instr)
  | rel (f : Byte → Instr)
  | indX (f : Byte → Instr)
  | indY (f : Byte → Instr)
  | abs (f : Word → Instr)
  | absX (f : Word → Instr)
  | absY (f : Word → Instr)
  | ind (f : Word → Instr)

/-- The mode tag of a cell (R124). -/
def Build.mode : Build → Mode
  | .impl _ => .implied
  | .acc _ => .accumulator
  | .imm _ => .immediate
  | .zp _ => .zeroPage
  | .zpX _ => .zeroPageX
  | .zpY _ => .zeroPageY
  | .rel _ => .relative
  | .indX _ => .indirectX
  | .indY _ => .indirectY
  | .abs _ => .absolute
  | .absX _ => .absoluteX
  | .absY _ => .absoluteY
  | .ind _ => .indirect

/-- How many operand bytes follow the opcode byte, and what is made of them: none (F1), one (F2), or two, low byte
first (F3). -/
inductive Format where
  | f1 (i : Instr)
  | f2 (f : Byte → Instr)
  | f3 (f : Word → Instr)

/-- The format of a cell (R121 to R124). -/
def Build.format : Build → Format
  | .impl i | .acc i => .f1 i
  | .imm f | .zp f | .zpX f | .zpY f | .rel f | .indX f | .indY f => .f2 f
  | .abs f | .absX f | .absY f | .ind f => .f3 f

/-- The number of operand bytes a format has. -/
def Format.operandBytes : Format → Nat
  | .f1 _ => 0
  | .f2 _ => 1
  | .f3 _ => 2

/-- Row 0x of the opcode matrix (R128). -/
def opcodeRow0 : List (Mnemonic × Build) :=
  [(.BRK, .impl .brk), (.ORA, .indX .oraIndX), (.JAM, .impl .jam02), (.SLO, .indX .sloIndX),
   (.NOP, .zp .nopZp04), (.ORA, .zp .oraZp), (.ASL, .zp .aslZp), (.SLO, .zp .sloZp),
   (.PHP, .impl .php), (.ORA, .imm .oraImm), (.ASL, .acc .aslA), (.ANC, .imm (.ancImm0B ·)),
   (.NOP, .abs .nopAbs), (.ORA, .abs .oraAbs), (.ASL, .abs .aslAbs), (.SLO, .abs .sloAbs)]

/-- Row 1x of the opcode matrix (R128). -/
def opcodeRow1 : List (Mnemonic × Build) :=
  [(.BPL, .rel .bpl), (.ORA, .indY .oraIndY), (.JAM, .impl .jam12), (.SLO, .indY .sloIndY),
   (.NOP, .zpX .nopZpX14), (.ORA, .zpX .oraZpX), (.ASL, .zpX .aslZpX), (.SLO, .zpX .sloZpX),
   (.CLC, .impl .clc), (.ORA, .absY .oraAbsY), (.NOP, .impl .nop1A), (.SLO, .absY .sloAbsY),
   (.NOP, .absX .nopAbsX1C), (.ORA, .absX .oraAbsX), (.ASL, .absX .aslAbsX), (.SLO, .absX .sloAbsX)]

/-- Row 2x of the opcode matrix (R128). -/
def opcodeRow2 : List (Mnemonic × Build) :=
  [(.JSR, .abs .jsr), (.AND, .indX .andIndX), (.JAM, .impl .jam22), (.RLA, .indX .rlaIndX),
   (.BIT, .zp .bitZp), (.AND, .zp .andZp), (.ROL, .zp .rolZp), (.RLA, .zp .rlaZp),
   (.PLP, .impl .plp), (.AND, .imm .andImm), (.ROL, .acc .rolA), (.ANC, .imm (.ancImm2B ·)),
   (.BIT, .abs .bitAbs), (.AND, .abs .andAbs), (.ROL, .abs .rolAbs), (.RLA, .abs .rlaAbs)]

/-- Row 3x of the opcode matrix (R128). -/
def opcodeRow3 : List (Mnemonic × Build) :=
  [(.BMI, .rel .bmi), (.AND, .indY .andIndY), (.JAM, .impl .jam32), (.RLA, .indY .rlaIndY),
   (.NOP, .zpX .nopZpX34), (.AND, .zpX .andZpX), (.ROL, .zpX .rolZpX), (.RLA, .zpX .rlaZpX),
   (.SEC, .impl .sec), (.AND, .absY .andAbsY), (.NOP, .impl .nop3A), (.RLA, .absY .rlaAbsY),
   (.NOP, .absX .nopAbsX3C), (.AND, .absX .andAbsX), (.ROL, .absX .rolAbsX), (.RLA, .absX .rlaAbsX)]

/-- Row 4x of the opcode matrix (R128). -/
def opcodeRow4 : List (Mnemonic × Build) :=
  [(.RTI, .impl .rti), (.EOR, .indX .eorIndX), (.JAM, .impl .jam42), (.SRE, .indX .sreIndX),
   (.NOP, .zp .nopZp44), (.EOR, .zp .eorZp), (.LSR, .zp .lsrZp), (.SRE, .zp .sreZp),
   (.PHA, .impl .pha), (.EOR, .imm .eorImm), (.LSR, .acc .lsrA), (.ASR, .imm (.asrImm ·)),
   (.JMP, .abs .jmpAbs), (.EOR, .abs .eorAbs), (.LSR, .abs .lsrAbs), (.SRE, .abs .sreAbs)]

/-- Row 5x of the opcode matrix (R128). -/
def opcodeRow5 : List (Mnemonic × Build) :=
  [(.BVC, .rel .bvc), (.EOR, .indY .eorIndY), (.JAM, .impl .jam52), (.SRE, .indY .sreIndY),
   (.NOP, .zpX .nopZpX54), (.EOR, .zpX .eorZpX), (.LSR, .zpX .lsrZpX), (.SRE, .zpX .sreZpX),
   (.CLI, .impl .cli), (.EOR, .absY .eorAbsY), (.NOP, .impl .nop5A), (.SRE, .absY .sreAbsY),
   (.NOP, .absX .nopAbsX5C), (.EOR, .absX .eorAbsX), (.LSR, .absX .lsrAbsX), (.SRE, .absX .sreAbsX)]

/-- Row 6x of the opcode matrix (R128). -/
def opcodeRow6 : List (Mnemonic × Build) :=
  [(.RTS, .impl .rts), (.ADC, .indX .adcIndX), (.JAM, .impl .jam62), (.RRA, .indX .rraIndX),
   (.NOP, .zp .nopZp64), (.ADC, .zp .adcZp), (.ROR, .zp .rorZp), (.RRA, .zp .rraZp),
   (.PLA, .impl .pla), (.ADC, .imm .adcImm), (.ROR, .acc .rorA), (.ARR, .imm (.arrImm ·)),
   (.JMP, .ind .jmpInd), (.ADC, .abs .adcAbs), (.ROR, .abs .rorAbs), (.RRA, .abs .rraAbs)]

/-- Row 7x of the opcode matrix (R128). -/
def opcodeRow7 : List (Mnemonic × Build) :=
  [(.BVS, .rel .bvs), (.ADC, .indY .adcIndY), (.JAM, .impl .jam72), (.RRA, .indY .rraIndY),
   (.NOP, .zpX .nopZpX74), (.ADC, .zpX .adcZpX), (.ROR, .zpX .rorZpX), (.RRA, .zpX .rraZpX),
   (.SEI, .impl .sei), (.ADC, .absY .adcAbsY), (.NOP, .impl .nop7A), (.RRA, .absY .rraAbsY),
   (.NOP, .absX .nopAbsX7C), (.ADC, .absX .adcAbsX), (.ROR, .absX .rorAbsX), (.RRA, .absX .rraAbsX)]

/-- Row 8x of the opcode matrix (R128). -/
def opcodeRow8 : List (Mnemonic × Build) :=
  [(.NOP, .imm .nopImm80), (.STA, .indX .staIndX), (.NOP, .imm .nopImm82), (.SAX, .indX .saxIndX),
   (.STY, .zp .styZp), (.STA, .zp .staZp), (.STX, .zp .stxZp), (.SAX, .zp .saxZp),
   (.DEY, .impl .dey), (.NOP, .imm .nopImm89), (.TXA, .impl .txa), (.ANE, .imm (.aneImm ·)),
   (.STY, .abs .styAbs), (.STA, .abs .staAbs), (.STX, .abs .stxAbs), (.SAX, .abs .saxAbs)]

/-- Row 9x of the opcode matrix (R128). -/
def opcodeRow9 : List (Mnemonic × Build) :=
  [(.BCC, .rel .bcc), (.STA, .indY .staIndY), (.JAM, .impl .jam92), (.SHA, .indY (.shaIndY ·)),
   (.STY, .zpX .styZpX), (.STA, .zpX .staZpX), (.STX, .zpY .stxZpY), (.SAX, .zpY .saxZpY),
   (.TYA, .impl .tya), (.STA, .absY .staAbsY), (.TXS, .impl .txs), (.SHS, .absY (.shsAbsY ·)),
   (.SHY, .absX (.shyAbsX ·)), (.STA, .absX .staAbsX), (.SHX, .absY (.shxAbsY ·)), (.SHA, .absY (.shaAbsY ·))]

/-- Row Ax of the opcode matrix (R128). -/
def opcodeRowA : List (Mnemonic × Build) :=
  [(.LDY, .imm .ldyImm), (.LDA, .indX .ldaIndX), (.LDX, .imm .ldxImm), (.LAX, .indX .laxIndX),
   (.LDY, .zp .ldyZp), (.LDA, .zp .ldaZp), (.LDX, .zp .ldxZp), (.LAX, .zp .laxZp),
   (.TAY, .impl .tay), (.LDA, .imm .ldaImm), (.TAX, .impl .tax), (.LXA, .imm (.lxaImm ·)),
   (.LDY, .abs .ldyAbs), (.LDA, .abs .ldaAbs), (.LDX, .abs .ldxAbs), (.LAX, .abs .laxAbs)]

/-- Row Bx of the opcode matrix (R128). -/
def opcodeRowB : List (Mnemonic × Build) :=
  [(.BCS, .rel .bcs), (.LDA, .indY .ldaIndY), (.JAM, .impl .jamB2), (.LAX, .indY .laxIndY),
   (.LDY, .zpX .ldyZpX), (.LDA, .zpX .ldaZpX), (.LDX, .zpY .ldxZpY), (.LAX, .zpY .laxZpY),
   (.CLV, .impl .clv), (.LDA, .absY .ldaAbsY), (.TSX, .impl .tsx), (.LAE, .absY (.laeAbsY ·)),
   (.LDY, .absX .ldyAbsX), (.LDA, .absX .ldaAbsX), (.LDX, .absY .ldxAbsY), (.LAX, .absY .laxAbsY)]

/-- Row Cx of the opcode matrix (R128). -/
def opcodeRowC : List (Mnemonic × Build) :=
  [(.CPY, .imm .cpyImm), (.CMP, .indX .cmpIndX), (.NOP, .imm .nopImmC2), (.DCP, .indX .dcpIndX),
   (.CPY, .zp .cpyZp), (.CMP, .zp .cmpZp), (.DEC, .zp .decZp), (.DCP, .zp .dcpZp),
   (.INY, .impl .iny), (.CMP, .imm .cmpImm), (.DEX, .impl .dex), (.SBX, .imm (.sbxImm ·)),
   (.CPY, .abs .cpyAbs), (.CMP, .abs .cmpAbs), (.DEC, .abs .decAbs), (.DCP, .abs .dcpAbs)]

/-- Row Dx of the opcode matrix (R128). -/
def opcodeRowD : List (Mnemonic × Build) :=
  [(.BNE, .rel .bne), (.CMP, .indY .cmpIndY), (.JAM, .impl .jamD2), (.DCP, .indY .dcpIndY),
   (.NOP, .zpX .nopZpXD4), (.CMP, .zpX .cmpZpX), (.DEC, .zpX .decZpX), (.DCP, .zpX .dcpZpX),
   (.CLD, .impl .cld), (.CMP, .absY .cmpAbsY), (.NOP, .impl .nopDA), (.DCP, .absY .dcpAbsY),
   (.NOP, .absX .nopAbsXDC), (.CMP, .absX .cmpAbsX), (.DEC, .absX .decAbsX), (.DCP, .absX .dcpAbsX)]

/-- Row Ex of the opcode matrix (R128). -/
def opcodeRowE : List (Mnemonic × Build) :=
  [(.CPX, .imm .cpxImm), (.SBC, .indX .sbcIndX), (.NOP, .imm .nopImmE2), (.ISB, .indX .isbIndX),
   (.CPX, .zp .cpxZp), (.SBC, .zp .sbcZp), (.INC, .zp .incZp), (.ISB, .zp .isbZp),
   (.INX, .impl .inx), (.SBC, .imm .sbcImm), (.NOP, .impl .nop), (.SBC, .imm .sbcImmEB),
   (.CPX, .abs .cpxAbs), (.SBC, .abs .sbcAbs), (.INC, .abs .incAbs), (.ISB, .abs .isbAbs)]

/-- Row Fx of the opcode matrix (R128). -/
def opcodeRowF : List (Mnemonic × Build) :=
  [(.BEQ, .rel .beq), (.SBC, .indY .sbcIndY), (.JAM, .impl .jamF2), (.ISB, .indY .isbIndY),
   (.NOP, .zpX .nopZpXF4), (.SBC, .zpX .sbcZpX), (.INC, .zpX .incZpX), (.ISB, .zpX .isbZpX),
   (.SED, .impl .sed), (.SBC, .absY .sbcAbsY), (.NOP, .impl .nopFA), (.ISB, .absY .isbAbsY),
   (.NOP, .absX .nopAbsXFC), (.SBC, .absX .sbcAbsX), (.INC, .absX .incAbsX), (.ISB, .absX .isbAbsX)]

/-- The opcode matrix, its rows by the high nibble, its columns by the low nibble (R128). -/
def opcodeMatrix : List (List (Mnemonic × Build)) :=
  [opcodeRow0, opcodeRow1, opcodeRow2, opcodeRow3, opcodeRow4, opcodeRow5, opcodeRow6, opcodeRow7,
   opcodeRow8, opcodeRow9, opcodeRowA, opcodeRowB, opcodeRowC, opcodeRowD, opcodeRowE, opcodeRowF]

/-- A cell of the cycle matrix with penalty class None. -/
def fix (n : Nat) : Nat × Penalty := (n, .none)
/-- A cell of the cycle matrix with penalty class Page (suffix p of R129). -/
def pag (n : Nat) : Nat × Penalty := (n, .page)
/-- A cell of the cycle matrix with penalty class Branch (suffix b of R129). -/
def brn (n : Nat) : Nat × Penalty := (n, .branch)

/-- Row 0x of the cycle matrix (R129). -/
def cycleRow0 : List (Nat × Penalty) :=
  [fix 7, fix 6, fix 0, fix 8, fix 3, fix 3, fix 5, fix 5,
   fix 3, fix 2, fix 2, fix 2, fix 4, fix 4, fix 6, fix 6]

/-- Row 1x of the cycle matrix (R129). -/
def cycleRow1 : List (Nat × Penalty) :=
  [brn 2, pag 5, fix 0, fix 8, fix 4, fix 4, fix 6, fix 6,
   fix 2, pag 4, fix 2, fix 7, pag 4, pag 4, fix 7, fix 7]

/-- Row 2x of the cycle matrix (R129). -/
def cycleRow2 : List (Nat × Penalty) :=
  [fix 6, fix 6, fix 0, fix 8, fix 3, fix 3, fix 5, fix 5,
   fix 4, fix 2, fix 2, fix 2, fix 4, fix 4, fix 6, fix 6]

/-- Row 3x of the cycle matrix (R129). -/
def cycleRow3 : List (Nat × Penalty) :=
  [brn 2, pag 5, fix 0, fix 8, fix 4, fix 4, fix 6, fix 6,
   fix 2, pag 4, fix 2, fix 7, pag 4, pag 4, fix 7, fix 7]

/-- Row 4x of the cycle matrix (R129). -/
def cycleRow4 : List (Nat × Penalty) :=
  [fix 6, fix 6, fix 0, fix 8, fix 3, fix 3, fix 5, fix 5,
   fix 3, fix 2, fix 2, fix 2, fix 3, fix 4, fix 6, fix 6]

/-- Row 5x of the cycle matrix (R129). -/
def cycleRow5 : List (Nat × Penalty) :=
  [brn 2, pag 5, fix 0, fix 8, fix 4, fix 4, fix 6, fix 6,
   fix 2, pag 4, fix 2, fix 7, pag 4, pag 4, fix 7, fix 7]

/-- Row 6x of the cycle matrix (R129). -/
def cycleRow6 : List (Nat × Penalty) :=
  [fix 6, fix 6, fix 0, fix 8, fix 3, fix 3, fix 5, fix 5,
   fix 4, fix 2, fix 2, fix 2, fix 5, fix 4, fix 6, fix 6]

/-- Row 7x of the cycle matrix (R129). -/
def cycleRow7 : List (Nat × Penalty) :=
  [brn 2, pag 5, fix 0, fix 8, fix 4, fix 4, fix 6, fix 6,
   fix 2, pag 4, fix 2, fix 7, pag 4, pag 4, fix 7, fix 7]

/-- Row 8x of the cycle matrix (R129). -/
def cycleRow8 : List (Nat × Penalty) :=
  [fix 2, fix 6, fix 2, fix 6, fix 3, fix 3, fix 3, fix 3,
   fix 2, fix 2, fix 2, fix 2, fix 4, fix 4, fix 4, fix 4]

/-- Row 9x of the cycle matrix (R129). -/
def cycleRow9 : List (Nat × Penalty) :=
  [brn 2, fix 6, fix 0, fix 6, fix 4, fix 4, fix 4, fix 4,
   fix 2, fix 5, fix 2, fix 5, fix 5, fix 5, fix 5, fix 5]

/-- Row Ax of the cycle matrix (R129). -/
def cycleRowA : List (Nat × Penalty) :=
  [fix 2, fix 6, fix 2, fix 6, fix 3, fix 3, fix 3, fix 3,
   fix 2, fix 2, fix 2, fix 2, fix 4, fix 4, fix 4, fix 4]

/-- Row Bx of the cycle matrix (R129). -/
def cycleRowB : List (Nat × Penalty) :=
  [brn 2, pag 5, fix 0, pag 5, fix 4, fix 4, fix 4, fix 4,
   fix 2, pag 4, fix 2, pag 4, pag 4, pag 4, pag 4, pag 4]

/-- Row Cx of the cycle matrix (R129). -/
def cycleRowC : List (Nat × Penalty) :=
  [fix 2, fix 6, fix 2, fix 8, fix 3, fix 3, fix 5, fix 5,
   fix 2, fix 2, fix 2, fix 2, fix 4, fix 4, fix 6, fix 6]

/-- Row Dx of the cycle matrix (R129). -/
def cycleRowD : List (Nat × Penalty) :=
  [brn 2, pag 5, fix 0, fix 8, fix 4, fix 4, fix 6, fix 6,
   fix 2, pag 4, fix 2, fix 7, pag 4, pag 4, fix 7, fix 7]

/-- Row Ex of the cycle matrix (R129). -/
def cycleRowE : List (Nat × Penalty) :=
  [fix 2, fix 6, fix 2, fix 8, fix 3, fix 3, fix 5, fix 5,
   fix 2, fix 2, fix 2, fix 2, fix 4, fix 4, fix 6, fix 6]

/-- Row Fx of the cycle matrix (R129). -/
def cycleRowF : List (Nat × Penalty) :=
  [brn 2, pag 5, fix 0, fix 8, fix 4, fix 4, fix 6, fix 6,
   fix 2, pag 4, fix 2, fix 7, pag 4, pag 4, fix 7, fix 7]

/-- The cycle matrix (R129); JAM's cells hold the placeholder 0, which no tick ever charges (R322). -/
def cycleMatrix : List (List (Nat × Penalty)) :=
  [cycleRow0, cycleRow1, cycleRow2, cycleRow3, cycleRow4, cycleRow5, cycleRow6, cycleRow7,
   cycleRow8, cycleRow9, cycleRowA, cycleRowB, cycleRowC, cycleRowD, cycleRowE, cycleRowF]

/-- The cell of a 16 by 16 matrix at an opcode byte. -/
def matrixCell {α : Type} (m : List (List α)) (op : Byte) : Option α :=
  (m[op.toNat / 16]?).bind (fun row => row[op.toNat % 16]?)

/-- lookup(byte) (R127): the row of an opcode byte, or none where the table has no descriptor for it (OPTAB_PRESENT,
R6); every byte has one here. -/
def lookup (op : Byte) : Option (Descriptor × Build) :=
  if Params.optabPresent op then
    (matrixCell opcodeMatrix op).bind fun cell =>
      (matrixCell cycleMatrix op).map fun time =>
        ({ code := op, mnemonic := cell.1, length := cell.2.mode.length, cycles := time.1, penalty := time.2,
           mode := cell.2.mode }, cell.2)
  else none

/-- Why the decoder rejects a string of bytes. -/
inductive DecodeError where
  /-- There is no opcode byte. -/
  | noBytes
  /-- The opcode byte has no descriptor (R127); the iteration skips it (40 R154). -/
  | noDescriptor (op : Byte)
  /-- The string ends before the operand bytes of the opcode's format do. -/
  | truncated (op : Byte)
deriving DecidableEq, Repr

/-- The decoder: the instruction at the head of a string of bytes, and the rest of the string (R120, R125). -/
def decode : List Byte → Except DecodeError (Instr × List Byte)
  | [] => .error .noBytes
  | op :: rest =>
    match lookup op with
    | none => .error (.noDescriptor op)
    | some (_, b) =>
      match b.format, rest with
      | .f1 i, rest => .ok (i, rest)
      | .f2 f, v :: rest => .ok (f v, rest)
      | .f3 f, l :: h :: rest => .ok (f (wordOf h l), rest)
      | .f2 _, [] | .f3 _, [] | .f3 _, [_] => .error (.truncated op)

/-- The encoder: an instruction's bytes, opcode first, then the operand, low byte first (R120 to R123). -/
def encode : Instr → List Byte
  | .brk => [0x00]
  | .oraIndX v => [0x01, v]
  | .jam02 => [0x02]
  | .sloIndX v => [0x03, v]
  | .nopZp04 v => [0x04, v]
  | .oraZp v => [0x05, v]
  | .aslZp v => [0x06, v]
  | .sloZp v => [0x07, v]
  | .php => [0x08]
  | .oraImm v => [0x09, v]
  | .aslA => [0x0A]
  | .ancImm0B v => [0x0B, v]
  | .nopAbs w => [0x0C, lo w, hi w]
  | .oraAbs w => [0x0D, lo w, hi w]
  | .aslAbs w => [0x0E, lo w, hi w]
  | .sloAbs w => [0x0F, lo w, hi w]
  | .bpl v => [0x10, v]
  | .oraIndY v => [0x11, v]
  | .jam12 => [0x12]
  | .sloIndY v => [0x13, v]
  | .nopZpX14 v => [0x14, v]
  | .oraZpX v => [0x15, v]
  | .aslZpX v => [0x16, v]
  | .sloZpX v => [0x17, v]
  | .clc => [0x18]
  | .oraAbsY w => [0x19, lo w, hi w]
  | .nop1A => [0x1A]
  | .sloAbsY w => [0x1B, lo w, hi w]
  | .nopAbsX1C w => [0x1C, lo w, hi w]
  | .oraAbsX w => [0x1D, lo w, hi w]
  | .aslAbsX w => [0x1E, lo w, hi w]
  | .sloAbsX w => [0x1F, lo w, hi w]
  | .jsr w => [0x20, lo w, hi w]
  | .andIndX v => [0x21, v]
  | .jam22 => [0x22]
  | .rlaIndX v => [0x23, v]
  | .bitZp v => [0x24, v]
  | .andZp v => [0x25, v]
  | .rolZp v => [0x26, v]
  | .rlaZp v => [0x27, v]
  | .plp => [0x28]
  | .andImm v => [0x29, v]
  | .rolA => [0x2A]
  | .ancImm2B v => [0x2B, v]
  | .bitAbs w => [0x2C, lo w, hi w]
  | .andAbs w => [0x2D, lo w, hi w]
  | .rolAbs w => [0x2E, lo w, hi w]
  | .rlaAbs w => [0x2F, lo w, hi w]
  | .bmi v => [0x30, v]
  | .andIndY v => [0x31, v]
  | .jam32 => [0x32]
  | .rlaIndY v => [0x33, v]
  | .nopZpX34 v => [0x34, v]
  | .andZpX v => [0x35, v]
  | .rolZpX v => [0x36, v]
  | .rlaZpX v => [0x37, v]
  | .sec => [0x38]
  | .andAbsY w => [0x39, lo w, hi w]
  | .nop3A => [0x3A]
  | .rlaAbsY w => [0x3B, lo w, hi w]
  | .nopAbsX3C w => [0x3C, lo w, hi w]
  | .andAbsX w => [0x3D, lo w, hi w]
  | .rolAbsX w => [0x3E, lo w, hi w]
  | .rlaAbsX w => [0x3F, lo w, hi w]
  | .rti => [0x40]
  | .eorIndX v => [0x41, v]
  | .jam42 => [0x42]
  | .sreIndX v => [0x43, v]
  | .nopZp44 v => [0x44, v]
  | .eorZp v => [0x45, v]
  | .lsrZp v => [0x46, v]
  | .sreZp v => [0x47, v]
  | .pha => [0x48]
  | .eorImm v => [0x49, v]
  | .lsrA => [0x4A]
  | .asrImm v => [0x4B, v]
  | .jmpAbs w => [0x4C, lo w, hi w]
  | .eorAbs w => [0x4D, lo w, hi w]
  | .lsrAbs w => [0x4E, lo w, hi w]
  | .sreAbs w => [0x4F, lo w, hi w]
  | .bvc v => [0x50, v]
  | .eorIndY v => [0x51, v]
  | .jam52 => [0x52]
  | .sreIndY v => [0x53, v]
  | .nopZpX54 v => [0x54, v]
  | .eorZpX v => [0x55, v]
  | .lsrZpX v => [0x56, v]
  | .sreZpX v => [0x57, v]
  | .cli => [0x58]
  | .eorAbsY w => [0x59, lo w, hi w]
  | .nop5A => [0x5A]
  | .sreAbsY w => [0x5B, lo w, hi w]
  | .nopAbsX5C w => [0x5C, lo w, hi w]
  | .eorAbsX w => [0x5D, lo w, hi w]
  | .lsrAbsX w => [0x5E, lo w, hi w]
  | .sreAbsX w => [0x5F, lo w, hi w]
  | .rts => [0x60]
  | .adcIndX v => [0x61, v]
  | .jam62 => [0x62]
  | .rraIndX v => [0x63, v]
  | .nopZp64 v => [0x64, v]
  | .adcZp v => [0x65, v]
  | .rorZp v => [0x66, v]
  | .rraZp v => [0x67, v]
  | .pla => [0x68]
  | .adcImm v => [0x69, v]
  | .rorA => [0x6A]
  | .arrImm v => [0x6B, v]
  | .jmpInd w => [0x6C, lo w, hi w]
  | .adcAbs w => [0x6D, lo w, hi w]
  | .rorAbs w => [0x6E, lo w, hi w]
  | .rraAbs w => [0x6F, lo w, hi w]
  | .bvs v => [0x70, v]
  | .adcIndY v => [0x71, v]
  | .jam72 => [0x72]
  | .rraIndY v => [0x73, v]
  | .nopZpX74 v => [0x74, v]
  | .adcZpX v => [0x75, v]
  | .rorZpX v => [0x76, v]
  | .rraZpX v => [0x77, v]
  | .sei => [0x78]
  | .adcAbsY w => [0x79, lo w, hi w]
  | .nop7A => [0x7A]
  | .rraAbsY w => [0x7B, lo w, hi w]
  | .nopAbsX7C w => [0x7C, lo w, hi w]
  | .adcAbsX w => [0x7D, lo w, hi w]
  | .rorAbsX w => [0x7E, lo w, hi w]
  | .rraAbsX w => [0x7F, lo w, hi w]
  | .nopImm80 v => [0x80, v]
  | .staIndX v => [0x81, v]
  | .nopImm82 v => [0x82, v]
  | .saxIndX v => [0x83, v]
  | .styZp v => [0x84, v]
  | .staZp v => [0x85, v]
  | .stxZp v => [0x86, v]
  | .saxZp v => [0x87, v]
  | .dey => [0x88]
  | .nopImm89 v => [0x89, v]
  | .txa => [0x8A]
  | .aneImm v => [0x8B, v]
  | .styAbs w => [0x8C, lo w, hi w]
  | .staAbs w => [0x8D, lo w, hi w]
  | .stxAbs w => [0x8E, lo w, hi w]
  | .saxAbs w => [0x8F, lo w, hi w]
  | .bcc v => [0x90, v]
  | .staIndY v => [0x91, v]
  | .jam92 => [0x92]
  | .shaIndY v => [0x93, v]
  | .styZpX v => [0x94, v]
  | .staZpX v => [0x95, v]
  | .stxZpY v => [0x96, v]
  | .saxZpY v => [0x97, v]
  | .tya => [0x98]
  | .staAbsY w => [0x99, lo w, hi w]
  | .txs => [0x9A]
  | .shsAbsY w => [0x9B, lo w, hi w]
  | .shyAbsX w => [0x9C, lo w, hi w]
  | .staAbsX w => [0x9D, lo w, hi w]
  | .shxAbsY w => [0x9E, lo w, hi w]
  | .shaAbsY w => [0x9F, lo w, hi w]
  | .ldyImm v => [0xA0, v]
  | .ldaIndX v => [0xA1, v]
  | .ldxImm v => [0xA2, v]
  | .laxIndX v => [0xA3, v]
  | .ldyZp v => [0xA4, v]
  | .ldaZp v => [0xA5, v]
  | .ldxZp v => [0xA6, v]
  | .laxZp v => [0xA7, v]
  | .tay => [0xA8]
  | .ldaImm v => [0xA9, v]
  | .tax => [0xAA]
  | .lxaImm v => [0xAB, v]
  | .ldyAbs w => [0xAC, lo w, hi w]
  | .ldaAbs w => [0xAD, lo w, hi w]
  | .ldxAbs w => [0xAE, lo w, hi w]
  | .laxAbs w => [0xAF, lo w, hi w]
  | .bcs v => [0xB0, v]
  | .ldaIndY v => [0xB1, v]
  | .jamB2 => [0xB2]
  | .laxIndY v => [0xB3, v]
  | .ldyZpX v => [0xB4, v]
  | .ldaZpX v => [0xB5, v]
  | .ldxZpY v => [0xB6, v]
  | .laxZpY v => [0xB7, v]
  | .clv => [0xB8]
  | .ldaAbsY w => [0xB9, lo w, hi w]
  | .tsx => [0xBA]
  | .laeAbsY w => [0xBB, lo w, hi w]
  | .ldyAbsX w => [0xBC, lo w, hi w]
  | .ldaAbsX w => [0xBD, lo w, hi w]
  | .ldxAbsY w => [0xBE, lo w, hi w]
  | .laxAbsY w => [0xBF, lo w, hi w]
  | .cpyImm v => [0xC0, v]
  | .cmpIndX v => [0xC1, v]
  | .nopImmC2 v => [0xC2, v]
  | .dcpIndX v => [0xC3, v]
  | .cpyZp v => [0xC4, v]
  | .cmpZp v => [0xC5, v]
  | .decZp v => [0xC6, v]
  | .dcpZp v => [0xC7, v]
  | .iny => [0xC8]
  | .cmpImm v => [0xC9, v]
  | .dex => [0xCA]
  | .sbxImm v => [0xCB, v]
  | .cpyAbs w => [0xCC, lo w, hi w]
  | .cmpAbs w => [0xCD, lo w, hi w]
  | .decAbs w => [0xCE, lo w, hi w]
  | .dcpAbs w => [0xCF, lo w, hi w]
  | .bne v => [0xD0, v]
  | .cmpIndY v => [0xD1, v]
  | .jamD2 => [0xD2]
  | .dcpIndY v => [0xD3, v]
  | .nopZpXD4 v => [0xD4, v]
  | .cmpZpX v => [0xD5, v]
  | .decZpX v => [0xD6, v]
  | .dcpZpX v => [0xD7, v]
  | .cld => [0xD8]
  | .cmpAbsY w => [0xD9, lo w, hi w]
  | .nopDA => [0xDA]
  | .dcpAbsY w => [0xDB, lo w, hi w]
  | .nopAbsXDC w => [0xDC, lo w, hi w]
  | .cmpAbsX w => [0xDD, lo w, hi w]
  | .decAbsX w => [0xDE, lo w, hi w]
  | .dcpAbsX w => [0xDF, lo w, hi w]
  | .cpxImm v => [0xE0, v]
  | .sbcIndX v => [0xE1, v]
  | .nopImmE2 v => [0xE2, v]
  | .isbIndX v => [0xE3, v]
  | .cpxZp v => [0xE4, v]
  | .sbcZp v => [0xE5, v]
  | .incZp v => [0xE6, v]
  | .isbZp v => [0xE7, v]
  | .inx => [0xE8]
  | .sbcImm v => [0xE9, v]
  | .nop => [0xEA]
  | .sbcImmEB v => [0xEB, v]
  | .cpxAbs w => [0xEC, lo w, hi w]
  | .sbcAbs w => [0xED, lo w, hi w]
  | .incAbs w => [0xEE, lo w, hi w]
  | .isbAbs w => [0xEF, lo w, hi w]
  | .beq v => [0xF0, v]
  | .sbcIndY v => [0xF1, v]
  | .jamF2 => [0xF2]
  | .isbIndY v => [0xF3, v]
  | .nopZpXF4 v => [0xF4, v]
  | .sbcZpX v => [0xF5, v]
  | .incZpX v => [0xF6, v]
  | .isbZpX v => [0xF7, v]
  | .sed => [0xF8]
  | .sbcAbsY w => [0xF9, lo w, hi w]
  | .nopFA => [0xFA]
  | .isbAbsY w => [0xFB, lo w, hi w]
  | .nopAbsXFC w => [0xFC, lo w, hi w]
  | .sbcAbsX w => [0xFD, lo w, hi w]
  | .incAbsX w => [0xFE, lo w, hi w]
  | .isbAbsX w => [0xFF, lo w, hi w]

/-- An instruction is well formed when the table has a row at its opcode byte, that row is self-consistent, and its
encoding fits the row. -/
def Instr.wf (i : Instr) : Bool :=
  match (encode i).head?.bind lookup with
  | some (d, _) => d.wf && d.fits (encode i)
  | none => false

/-- The bytes of a table word: bit 0 of w is the least significant bit of the first byte, and the bits from nbits up
are 0, to the length of the longest instruction (R120). -/
def tableBytes (nbits w : Nat) : List Byte :=
  let v := w % 2 ^ nbits
  [BitVec.ofNat 8 v, BitVec.ofNat 8 (v / 256), BitVec.ofNat 8 (v / 65536)]

/-- The instruction the decoder reads from a table word. -/
def decodeTableWord (nbits w : Nat) : Option Instr :=
  match decode (tableBytes nbits w) with
  | .ok (i, _) => some i
  | .error _ => none

end Sys2Proof
end

