-- ==== Sys2Proof/Machine/Fetch.lean ====
section
/-! DEFINITION. The opcode fetch and the operand bytes (40_execution_and_addressing.md R153 to R156, 30_encoding.md R125), and
the placing of an instruction's bytes where the next fetch reads them, which stands for the loading of a program. -/

namespace Sys2Proof.Machine

/-- What a fetch finds: no descriptor, or an instruction with its descriptor; and the machine after the reads, pc at
opaddr + 1. -/
inductive Fetched where
  | absent (s : State)
  | instr (i : Instr) (d : Descriptor) (s : State)

/-- The opcode byte at pc, and pc advanced by one (R153). -/
def fetchOpcode (s : State) : Byte × State :=
  let r := memRead s.pc s
  (r.1, { r.2 with pc := s.pc + 1 })

/-- The operand bytes of a format, read at pc, low byte first (R125); pc keeps its value (R160). -/
def fetchOperand (b : Format) (s : State) : Instr × State :=
  match b with
  | .f1 i => (i, s)
  | .f2 f => (f (memRead s.pc s).1, (memRead s.pc s).2)
  | .f3 f => (f (memRead16 s.pc s).1, (memRead16 s.pc s).2)

/-- Step 5 (R155), which an iteration that faults at step 4 does not reach (R154). -/
def resetExtra (d : Descriptor) (s : State) : State :=
  if d.mnemonic.unsupported then s else { s with extra := 0 }

/-- Steps 3 to 5 of the iteration and the operand bytes of step 6 (R153 to R156): the opcode byte is fetched and looked
up; where there is a descriptor, extra is reset and the operand bytes of its format are read. An unsupported row stops
at step 4: its operand is what stands in memory, and no access is made for it (R154, log entry 9). -/
def fetch (s : State) : Fetched :=
  let r := fetchOpcode s
  match lookup r.1 with
  | none => .absent r.2
  | some (d, b) =>
    let t := resetExtra d r.2
    let q := fetchOperand b.format t
    .instr q.1 d (if d.mnemonic.unsupported then t else q.2)

/-- A number of bytes read one after the other from an address on, each read leaving the machine to the next. -/
def readBytes : Nat → Word → State → List Byte × State
  | 0, _, s => ([], s)
  | n + 1, a, s =>
    let r := memRead a s
    let q := readBytes n (a + 1) r.2
    (r.1 :: q.1, q.2)

/-- An address whose byte the loader can have placed: in RAM or in PRG. -/
def placeable (a : Word) : Bool :=
  match regionOf a with
  | .ram | .mapper => true
  | .ppu | .io | .unmapped => false

/-- A byte placed where a read of an address finds it: the RAM byte, or the PRG byte the mapper maps there. -/
def placeByte (a : Word) (v : Byte) (s : State) : State :=
  match regionOf a with
  | .ram => { s with ram := s.ram.write (ramIndex a) v }
  | .mapper =>
    { s with cart := { s.cart with prg := s.cart.prg.write (prgOffset s.mapper s.cart.prgLen a) v } }
  | .ppu | .io | .unmapped => s

/-- Bytes placed at consecutive addresses. -/
def placeBytes : Word → List Byte → State → State
  | _, [], s => s
  | a, v :: rest, s => placeBytes (a + 1) rest (placeByte a v s)

/-- A machine whose next step fetches at pc, from a place where bytes can stand: Running, no interrupt pending, and pc
at 0x0000 if the bytes at the old pc are not in RAM or PRG (log entry 18). -/
def readyToFetch (s : State) : State :=
  let ok := placeable s.pc && placeable (s.pc + 1) && placeable (s.pc + 2)
  { s with status := .running, nmiPending := false, irqPending := false, pc := if ok then s.pc else 0x0000 }

end Sys2Proof.Machine
end

