-- ==== Sys2Proof/Machine/Step.lean ====
section
/-! DEFINITION. One step of the machine is one iteration (40_execution_and_addressing.md R150): the interrupt polls, the fetch,
the instruction, the penalty class and the tick. A Faulted machine performs none (10_state.md R30). -/

namespace Sys2Proof.Machine

/-- What follows an instruction's own effect in an iteration: steps 8 and 9 (R157, R158), unless it faulted. -/
def afterExec (d : Descriptor) (o : Out) : Out :=
  match o with
  | .next t => .next (finish d t)
  | .fault f => .fault f
  | .refused r => .refused r

/-- The iteration from step 3 on (R150). -/
def runFetched (f : Fetched) : Out :=
  match f with
  | .absent t => .next t
  | .instr i d t => afterExec d (exec i t)

/-- One iteration (R150). -/
def step (s : State) : Host.Outcome State Fault Refusal :=
  match s.status with
  | .faulted r => faultOf r s
  | .running => runFetched (fetch (pollInterrupts s))

/-- The machine with an instruction's bytes where the next step fetches them, and made ready to fetch there. -/
def State.withFetchWord (s : State) (nbits w : Nat) : State :=
  placeBytes (readyToFetch s).pc (tableBytes nbits w) (readyToFetch s)

end Sys2Proof.Machine
end

