-- ==== Sys2Proof/Safety.lean ====
section
/-! DEFINITION. What counts as a sound machine and a safe run, and the terms in which the statements about the machine are
made: the row of an instruction, the frame of an effect, and the results of the arithmetic, each said from the rules of
spec/ and not from the meanings. -/

namespace Sys2Proof.Machine

/-! ### Sound states and safe runs -/

/-- A machine the loader can have made and every run keeps: Running; bit 5 of P set (10_state.md R26); RAM in canonical
form within its 2048 bytes; a cartridge that the mapper variant accepts (70 R362), its stores in canonical form. -/
def State.Inv (s : State) : Prop :=
  s.status = .running ∧ getFlag .U s.p = true ∧ Memory.wf 2048 s.ram ∧ cartridgeOk s.mapper s.cart = true

/-- A run of k iterations that ends in a state, no iteration having faulted (70 R365). -/
def SafeRun (k : Nat) (s : State) : Prop := ∃ t, Host.Core.run Sys2Proof.core k s = .next t

/-! ### Rows -/

/-- The bytes an operand is encoded in, low byte first (30_encoding.md R121 to R123). -/
def Operand.bytes : Operand → List Byte
  | .immediate b | .zeroPage b | .zeroPageX b | .zeroPageY b | .indirectX b | .indirectY b | .relative b => [b]
  | .absolute w | .absoluteX w | .absoluteY w | .indirect w => [lo w, hi w]
  | .accumulator | .implied | .noneAddressing => []

/-- One form of an instruction, as its rule's Encodings line lists it: the constructor, the operand, the opcode byte,
the length, the base cycles and the penalty class. -/
structure Form where
  i   : Instr
  o   : Operand
  op  : Byte
  len : Nat
  cyc : Nat
  pen : Penalty

/-- The table and the encoding hold a form as its rule lists it. -/
def Form.Listed (f : Form) : Prop :=
  encode f.i = f.op :: f.o.bytes ∧ (encode f.i).length = f.len ∧
  ∃ d b, lookup f.op = some (d, b) ∧ d.code = f.op ∧ d.length = f.len ∧ d.cycles = f.cyc ∧ d.penalty = f.pen ∧
    d.mode = f.o.mode

/-! ### Power-on -/

/-- A cartridge the loader accepts for a mapper number: the lengths of 70 R362, the mirroring flag of 00_scope.md R6, and
stores written in their canonical form (log entry 21). -/
def LegalCartridge (n : Nat) (c : Cartridge) : Prop :=
  (n = 0 → c.prgLen = 16384 ∨ c.prgLen = 32768) ∧
  (n = 1 ∨ n = 10 → 0 < c.prgLen ∧ c.prgLen % 16384 = 0) ∧
  (n = 9 → 0 < c.prgLen ∧ c.prgLen % 8192 = 0) ∧
  (c.chrIsRam = true → c.chrLen = 8192) ∧
  (c.chrIsRam = false → 0 < c.chrLen) ∧
  (c.chrIsRam = false → n = 0 ∨ n = 1 → c.chrLen % 8192 = 0) ∧
  (c.chrIsRam = false → n = 9 ∨ n = 10 → c.chrLen % 4096 = 0) ∧
  (c.headerMirroring = .vertical ∨ c.headerMirroring = .horizontal) ∧
  Memory.wf c.prgLen c.prg ∧ Memory.wf c.chrLen c.chr

/-- A latch mapper's registers at load (10_state.md R36). -/
def LatchRegs.AtLoad (r : LatchRegs) : Prop :=
  r.prg = 0 ∧ r.chrFd0 = 0 ∧ r.chrFe0 = 0 ∧ r.chrFd1 = 0 ∧ r.chrFe1 = 0 ∧ r.mirror = 0 ∧ r.latch0 = .fe ∧ r.latch1 = .fe

/-- The mapper bank of a mapper number at load: the variant the number selects, with the registers of 10_state.md R36. -/
def Mapper.AtLoad (n : Nat) : Mapper → Prop
  | .direct => n = 0
  | .shiftRegister r =>
    n = 1 ∧ r.shift = 0 ∧ r.count = 0 ∧ r.control = 0x0C ∧ r.chr0 = 0 ∧ r.chr1 = 0 ∧ r.prg = 0
  | .latchA r => n = 9 ∧ r.AtLoad
  | .latchB r => n = 10 ∧ r.AtLoad

/-! ### Frames -/

/-- The registers A, X, Y and SP. -/
inductive Reg where
  | a | x | y | sp
deriving DecidableEq, Repr

/-- A register's value. -/
def Reg.get : Reg → State → Byte
  | .a, s => s.a
  | .x, s => s.x
  | .y, s => s.y
  | .sp, s => s.sp

/-- Everything an instruction's own effect leaves alone, but for the registers and flags named: the other registers,
the other flags, the status, the tick counter, the interrupt inputs, the cartridge and the coming tick inputs. -/
structure Keeps (regs : List Reg) (flags : List Flag) (s t : State) : Prop where
  otherRegs  : ∀ r, r ∉ regs → r.get t = r.get s
  otherFlags : ∀ f, f ∉ flags → getFlag f t.p = getFlag f s.p
  status     : t.status = s.status
  cycles     : t.cycles = s.cycles
  nmiPending : t.nmiPending = s.nmiPending
  irqPending : t.irqPending = s.irqPending
  cart       : t.cart = s.cart
  tickInputs : t.tickInputs = s.tickInputs

/-- Every byte of RAM and every mapper register as before. -/
def SameMemory (s t : State) : Prop := (∀ k, t.ram.read k = s.ram.read k) ∧ t.mapper = s.mapper

/-- The extra cycles and the record of the environment as they stand in the first state. -/
def SameRecord (u t : State) : Prop :=
  t.extra = u.extra ∧ t.devAnswers = u.devAnswers ∧ t.draws = u.draws ∧ t.events = u.events

/-- The events of a write, by the owner of the address (20_memory.md R51, R55, R59); a mapper write is one where the
mapper has registers (log entry 17). -/
def writeEvents (m : Mapper) (ea : Word) (v : Byte) : List BusEvent :=
  match regionOf ea with
  | .ppu => [.devWrite .ppu (ea &&& 7) v]
  | .io => [.devWrite .io ea v]
  | .mapper => if m = .direct then [] else [.mapperWrite ea v]
  | .ram | .unmapped => []

/-- One byte written at an address and nothing else (R53): in RAM that byte alone, above 0x7FFF the mapper's port
alone; u is the machine just before the write, s the one RAM and mapper are compared with. -/
def Stored (ea : Word) (v : Byte) (s u t : State) : Prop :=
  (∀ k, t.ram.read k = if regionOf ea = .ram ∧ k = ea.toNat % 2048 then v else s.ram.read k) ∧
  t.mapper = (if regionOf ea = .mapper then mapperWrite s.mapper ea v else s.mapper) ∧
  t.events = writeEvents s.mapper ea v ++ u.events ∧
  t.extra = u.extra ∧ t.devAnswers = u.devAnswers ∧ t.draws = u.draws

/-- Z and N follow a result (40 R177). -/
def NZ (v : Byte) (t : State) : Prop := getFlag .Z t.p = decide (v = 0) ∧ getFlag .N t.p = decide (128 ≤ v.toNat)

/-! ### Effects of one form -/

/-- A form that reads its operand once and then changes registers and flags only: it completes, pc takes pc_next. -/
def Form.Reads (f : Form) (s : State) (regs : List Reg) (flags : List Flag) (post : Byte → State → Prop) : Prop :=
  ∃ m u t, readOperand f.o s = .ok (m, u) ∧ exec f.i s = .next t ∧ post m t ∧
    t.pc = s.pc + BitVec.ofNat 16 (f.len - 1) ∧ Keeps regs flags s t ∧ SameMemory s t ∧ SameRecord u t

/-- A form that touches no bus: it completes, pc takes pc_next. -/
def Form.Internal (f : Form) (s : State) (regs : List Reg) (flags : List Flag) (post : State → Prop) : Prop :=
  ∃ t, exec f.i s = .next t ∧ post t ∧
    t.pc = s.pc + BitVec.ofNat 16 (f.len - 1) ∧ Keeps regs flags s t ∧ SameMemory s t ∧ SameRecord s t

/-- A form that stores a byte at its effective address, without reading there: it completes, pc takes pc_next. -/
def Form.Stores (f : Form) (s : State) (v : Byte) : Prop :=
  ∃ ea u t, resolve f.o s = .ok (ea, u) ∧ exec f.i s = .next t ∧ Stored ea v s u t ∧
    t.pc = s.pc + BitVec.ofNat 16 (f.len - 1) ∧ Keeps [] [] s t

/-- A read-modify-write form: one read of the effective address, one write of the result there (40 R178); it
completes, pc takes pc_next. -/
def Form.Modifies (f : Form) (s : State) (regs : List Reg) (flags : List Flag) (post : Byte → Byte → State → Prop) :
    Prop :=
  ∃ ea u m v r t, resolve f.o s = .ok (ea, u) ∧ memRead ea u = (m, v) ∧ exec f.i s = .next t ∧ post m r t ∧
    Stored ea r s v t ∧ t.pc = s.pc + BitVec.ofNat 16 (f.len - 1) ∧ Keeps regs flags s t

/-! ### Arithmetic as the rules state it -/

/-- The sum with carry: A modulo 256, C the carry out of bit 7, V when the signed sum leaves -128 to 127 (42 R220). -/
def Added (a m : Byte) (c : Bool) (t : State) : Prop :=
  t.a.toNat = (a.toNat + m.toNat + c.toNat) % 256 ∧
  getFlag .C t.p = decide (255 < a.toNat + m.toNat + c.toNat) ∧
  getFlag .V t.p = decide (a.toInt + m.toInt + c.toNat < -128 ∨ 127 < a.toInt + m.toInt + c.toNat) ∧
  NZ t.a t

/-- The difference with borrow: A modulo 256, C when nothing was borrowed, V when A and M differ in sign and the
result's sign differs from A's (R223). -/
def Subtracted (a m : Byte) (c : Bool) (t : State) : Prop :=
  (t.a.toNat : Int) = ((a.toNat : Int) - m.toNat - (1 - c.toNat)) % 256 ∧
  getFlag .C t.p = decide (0 ≤ (a.toNat : Int) - m.toNat - (1 - c.toNat)) ∧
  getFlag .V t.p = decide ((128 ≤ a.toNat ↔ ¬128 ≤ m.toNat) ∧ (128 ≤ t.a.toNat ↔ ¬128 ≤ a.toNat)) ∧
  NZ t.a t

/-- The comparison: C when the register is not below M, Z when they are equal, N bit 7 of the difference (R221). -/
def Compared (r m : Byte) (t : State) : Prop :=
  getFlag .C t.p = decide (m.toNat ≤ r.toNat) ∧ getFlag .Z t.p = decide (r = m) ∧
  getFlag .N t.p = decide (128 ≤ (r.toNat + 256 - m.toNat) % 256)

/-- The four shifts: the result from the byte and the carry in, and the bit shifted off (43 R241 to R244). -/
inductive Shift where
  | asl | lsr | rol | ror
deriving DecidableEq, Repr

/-- The result of a shift (R241 to R244). -/
def Shift.result : Shift → Nat → Bool → Nat
  | .asl, v, _ => v * 2 % 256
  | .lsr, v, _ => v / 2
  | .rol, v, c => v * 2 % 256 + c.toNat
  | .ror, v, c => v / 2 + 128 * c.toNat

/-- The bit shifted off (R241 to R244). -/
def Shift.out : Shift → Nat → Bool
  | .asl, v | .rol, v => decide (128 ≤ v)
  | .lsr, v | .ror, v => decide (v % 2 = 1)

/-- A conditional branch (44 R250): pc takes the displaced address if the branch is taken and pc_next if not; a branch
taken charges one cycle, and one more when the two lie on different pages. pc_next is opaddr + 2, one past pc. -/
def Branched (d : Byte) (taken : Bool) (s t : State) : Prop :=
  let fall := (s.pc.toNat + 1) % 65536
  let target := (((s.pc.toNat : Int) + 1 + d.toInt) % 65536).toNat
  t.pc.toNat = (if taken then target else fall) ∧
  t.extra = s.extra + (if taken then 1 + (if target / 256 ≠ fall / 256 then 1 else 0) else 0)

/-! ### Device reads -/

/-- A device read as the environment answers it (20_memory.md R58): the next stated answer, or a free value; one event,
and nothing else of the block changes. -/
def DeviceAnswers (dev : Device) (reg : Word) (s : State) (r : Byte × State) : Prop :=
  (s.devAnswers = r.1 :: r.2.devAnswers ∧ r.2.draws = s.draws ∨
    s.devAnswers = [] ∧ r.2.devAnswers = [] ∧ r.1 = Config.devAnswer s.draws ∧ r.2.draws = s.draws + 1) ∧
  r.2.events = .devRead dev reg r.1 :: s.events ∧
  Keeps [] [] s r.2 ∧ SameMemory s r.2 ∧ r.2.pc = s.pc ∧ r.2.extra = s.extra

/-! ### Runs of stack and mapper operations -/

/-- Bytes pushed one after the other. -/
def pushAll (vs : List Byte) (s : State) : State := vs.foldl (fun t v => push v t) s

/-- A number of bytes popped one after the other, the first popped first. -/
def popAll : Nat → State → List Byte × State
  | 0, s => ([], s)
  | n + 1, s => ((pop s).1 :: (popAll n (pop s).2).1, (popAll n (pop s).2).2)

/-- Writes to the shift-register mapper's port, in order. -/
def shiftWrites (r : ShiftRegs) (ws : List (Word × Byte)) : ShiftRegs :=
  ws.foldl (fun q w => shiftWrite q w.1 w.2) r

/-! ### Entries -/

/-- RAM after the return address and the status byte are pushed, high byte first, the frame of an interrupt or trap
(60 R334, R336, R337). -/
def FramePushed (ret : Word) (status : Byte) (s t : State) : Prop :=
  t.sp = s.sp - 3 ∧
  ∀ k, t.ram.read k =
    if k = 256 + (s.sp - 2).toNat then status
    else if k = 256 + (s.sp - 1).toNat then lo ret
    else if k = 256 + s.sp.toNat then hi ret
    else s.ram.read k

/-- The address a vector holds under the machine's bank registers, little-endian (20_memory.md R68). -/
def vectorTarget (s : State) (vector : Word) : Word := wordOf (readPrg s (vector + 1)) (readPrg s vector)

end Sys2Proof.Machine
end

