-- ==== Sys2Proof/Certificates/Slice0/Obligations.lean ====
section
/-! DEFINITION. The statements for the provers. Each instruction statement runs over the forms that the Encodings line of the
instruction's rule lists, one constructor of Instr each, and says of every form that the table holds it as listed
(Form.Listed), that exec answers a next state, and what that state is. -/

namespace Sys2Proof.Machine

/-- The forms of LDA, from the Encodings line of its rule (R200). -/
def ldaForms (b : Byte) (w : Word) : List Form :=
  [⟨.ldaIndX b, .indirectX b, 0xA1, 2, 6, .none⟩, ⟨.ldaZp b, .zeroPage b, 0xA5, 2, 3, .none⟩,
   ⟨.ldaImm b, .immediate b, 0xA9, 2, 2, .none⟩, ⟨.ldaAbs w, .absolute w, 0xAD, 3, 4, .none⟩,
   ⟨.ldaIndY b, .indirectY b, 0xB1, 2, 5, .page⟩, ⟨.ldaZpX b, .zeroPageX b, 0xB5, 2, 4, .none⟩,
   ⟨.ldaAbsY w, .absoluteY w, 0xB9, 3, 4, .page⟩, ⟨.ldaAbsX w, .absoluteX w, 0xBD, 3, 4, .page⟩]

/-- The forms of LDX, from the Encodings line of its rule (R201). -/
def ldxForms (b : Byte) (w : Word) : List Form :=
  [⟨.ldxImm b, .immediate b, 0xA2, 2, 2, .none⟩, ⟨.ldxZp b, .zeroPage b, 0xA6, 2, 3, .none⟩,
   ⟨.ldxAbs w, .absolute w, 0xAE, 3, 4, .none⟩, ⟨.ldxZpY b, .zeroPageY b, 0xB6, 2, 4, .none⟩,
   ⟨.ldxAbsY w, .absoluteY w, 0xBE, 3, 4, .page⟩]

/-- The forms of LDY, from the Encodings line of its rule (R202). -/
def ldyForms (b : Byte) (w : Word) : List Form :=
  [⟨.ldyImm b, .immediate b, 0xA0, 2, 2, .none⟩, ⟨.ldyZp b, .zeroPage b, 0xA4, 2, 3, .none⟩,
   ⟨.ldyAbs w, .absolute w, 0xAC, 3, 4, .none⟩, ⟨.ldyZpX b, .zeroPageX b, 0xB4, 2, 4, .none⟩,
   ⟨.ldyAbsX w, .absoluteX w, 0xBC, 3, 4, .page⟩]

/-- The forms of STA, from the Encodings line of its rule (R203). -/
def staForms (b : Byte) (w : Word) : List Form :=
  [⟨.staIndX b, .indirectX b, 0x81, 2, 6, .none⟩, ⟨.staZp b, .zeroPage b, 0x85, 2, 3, .none⟩,
   ⟨.staAbs w, .absolute w, 0x8D, 3, 4, .none⟩, ⟨.staIndY b, .indirectY b, 0x91, 2, 6, .none⟩,
   ⟨.staZpX b, .zeroPageX b, 0x95, 2, 4, .none⟩, ⟨.staAbsY w, .absoluteY w, 0x99, 3, 5, .none⟩,
   ⟨.staAbsX w, .absoluteX w, 0x9D, 3, 5, .none⟩]

/-- The forms of STX, from the Encodings line of its rule (R204). -/
def stxForms (b : Byte) (w : Word) : List Form :=
  [⟨.stxZp b, .zeroPage b, 0x86, 2, 3, .none⟩, ⟨.stxAbs w, .absolute w, 0x8E, 3, 4, .none⟩,
   ⟨.stxZpY b, .zeroPageY b, 0x96, 2, 4, .none⟩]

/-- The forms of STY, from the Encodings line of its rule (R205). -/
def styForms (b : Byte) (w : Word) : List Form :=
  [⟨.styZp b, .zeroPage b, 0x84, 2, 3, .none⟩, ⟨.styAbs w, .absolute w, 0x8C, 3, 4, .none⟩,
   ⟨.styZpX b, .zeroPageX b, 0x94, 2, 4, .none⟩]

/-- The forms of TAX, from the Encodings line of its rule (R206). -/
def taxForms : List Form :=
  [⟨.tax, .implied, 0xAA, 1, 2, .none⟩]

/-- The forms of TAY, from the Encodings line of its rule (R207). -/
def tayForms : List Form :=
  [⟨.tay, .implied, 0xA8, 1, 2, .none⟩]

/-- The forms of TXA, from the Encodings line of its rule (R208). -/
def txaForms : List Form :=
  [⟨.txa, .implied, 0x8A, 1, 2, .none⟩]

/-- The forms of TYA, from the Encodings line of its rule (R209). -/
def tyaForms : List Form :=
  [⟨.tya, .implied, 0x98, 1, 2, .none⟩]

/-- The forms of TSX, from the Encodings line of its rule (R210). -/
def tsxForms : List Form :=
  [⟨.tsx, .implied, 0xBA, 1, 2, .none⟩]

/-- The forms of TXS, from the Encodings line of its rule (R211). -/
def txsForms : List Form :=
  [⟨.txs, .implied, 0x9A, 1, 2, .none⟩]

/-- The forms of ADC, from the Encodings line of its rule (R222). -/
def adcForms (b : Byte) (w : Word) : List Form :=
  [⟨.adcIndX b, .indirectX b, 0x61, 2, 6, .none⟩, ⟨.adcZp b, .zeroPage b, 0x65, 2, 3, .none⟩,
   ⟨.adcImm b, .immediate b, 0x69, 2, 2, .none⟩, ⟨.adcAbs w, .absolute w, 0x6D, 3, 4, .none⟩,
   ⟨.adcIndY b, .indirectY b, 0x71, 2, 5, .page⟩, ⟨.adcZpX b, .zeroPageX b, 0x75, 2, 4, .none⟩,
   ⟨.adcAbsY w, .absoluteY w, 0x79, 3, 4, .page⟩, ⟨.adcAbsX w, .absoluteX w, 0x7D, 3, 4, .page⟩]

/-- The forms of SBC, from the Encodings line of its rule (R223). -/
def sbcForms (b : Byte) (w : Word) : List Form :=
  [⟨.sbcIndX b, .indirectX b, 0xE1, 2, 6, .none⟩, ⟨.sbcZp b, .zeroPage b, 0xE5, 2, 3, .none⟩,
   ⟨.sbcImm b, .immediate b, 0xE9, 2, 2, .none⟩, ⟨.sbcAbs w, .absolute w, 0xED, 3, 4, .none⟩,
   ⟨.sbcIndY b, .indirectY b, 0xF1, 2, 5, .page⟩, ⟨.sbcZpX b, .zeroPageX b, 0xF5, 2, 4, .none⟩,
   ⟨.sbcAbsY w, .absoluteY w, 0xF9, 3, 4, .page⟩, ⟨.sbcAbsX w, .absoluteX w, 0xFD, 3, 4, .page⟩]

/-- The forms of AND, from the Encodings line of its rule (R224). -/
def andForms (b : Byte) (w : Word) : List Form :=
  [⟨.andIndX b, .indirectX b, 0x21, 2, 6, .none⟩, ⟨.andZp b, .zeroPage b, 0x25, 2, 3, .none⟩,
   ⟨.andImm b, .immediate b, 0x29, 2, 2, .none⟩, ⟨.andAbs w, .absolute w, 0x2D, 3, 4, .none⟩,
   ⟨.andIndY b, .indirectY b, 0x31, 2, 5, .page⟩, ⟨.andZpX b, .zeroPageX b, 0x35, 2, 4, .none⟩,
   ⟨.andAbsY w, .absoluteY w, 0x39, 3, 4, .page⟩, ⟨.andAbsX w, .absoluteX w, 0x3D, 3, 4, .page⟩]

/-- The forms of ORA, from the Encodings line of its rule (R225). -/
def oraForms (b : Byte) (w : Word) : List Form :=
  [⟨.oraIndX b, .indirectX b, 0x01, 2, 6, .none⟩, ⟨.oraZp b, .zeroPage b, 0x05, 2, 3, .none⟩,
   ⟨.oraImm b, .immediate b, 0x09, 2, 2, .none⟩, ⟨.oraAbs w, .absolute w, 0x0D, 3, 4, .none⟩,
   ⟨.oraIndY b, .indirectY b, 0x11, 2, 5, .page⟩, ⟨.oraZpX b, .zeroPageX b, 0x15, 2, 4, .none⟩,
   ⟨.oraAbsY w, .absoluteY w, 0x19, 3, 4, .page⟩, ⟨.oraAbsX w, .absoluteX w, 0x1D, 3, 4, .page⟩]

/-- The forms of EOR, from the Encodings line of its rule (R226). -/
def eorForms (b : Byte) (w : Word) : List Form :=
  [⟨.eorIndX b, .indirectX b, 0x41, 2, 6, .none⟩, ⟨.eorZp b, .zeroPage b, 0x45, 2, 3, .none⟩,
   ⟨.eorImm b, .immediate b, 0x49, 2, 2, .none⟩, ⟨.eorAbs w, .absolute w, 0x4D, 3, 4, .none⟩,
   ⟨.eorIndY b, .indirectY b, 0x51, 2, 5, .page⟩, ⟨.eorZpX b, .zeroPageX b, 0x55, 2, 4, .none⟩,
   ⟨.eorAbsY w, .absoluteY w, 0x59, 3, 4, .page⟩, ⟨.eorAbsX w, .absoluteX w, 0x5D, 3, 4, .page⟩]

/-- The forms of BIT, from the Encodings line of its rule (R227). -/
def bitForms (b : Byte) (w : Word) : List Form :=
  [⟨.bitZp b, .zeroPage b, 0x24, 2, 3, .none⟩, ⟨.bitAbs w, .absolute w, 0x2C, 3, 4, .none⟩]

/-- The forms of CMP, from the Encodings line of its rule (R228). -/
def cmpForms (b : Byte) (w : Word) : List Form :=
  [⟨.cmpIndX b, .indirectX b, 0xC1, 2, 6, .none⟩, ⟨.cmpZp b, .zeroPage b, 0xC5, 2, 3, .none⟩,
   ⟨.cmpImm b, .immediate b, 0xC9, 2, 2, .none⟩, ⟨.cmpAbs w, .absolute w, 0xCD, 3, 4, .none⟩,
   ⟨.cmpIndY b, .indirectY b, 0xD1, 2, 5, .page⟩, ⟨.cmpZpX b, .zeroPageX b, 0xD5, 2, 4, .none⟩,
   ⟨.cmpAbsY w, .absoluteY w, 0xD9, 3, 4, .page⟩, ⟨.cmpAbsX w, .absoluteX w, 0xDD, 3, 4, .page⟩]

/-- The forms of CPX, from the Encodings line of its rule (R229). -/
def cpxForms (b : Byte) (w : Word) : List Form :=
  [⟨.cpxImm b, .immediate b, 0xE0, 2, 2, .none⟩, ⟨.cpxZp b, .zeroPage b, 0xE4, 2, 3, .none⟩,
   ⟨.cpxAbs w, .absolute w, 0xEC, 3, 4, .none⟩]

/-- The forms of CPY, from the Encodings line of its rule (R230). -/
def cpyForms (b : Byte) (w : Word) : List Form :=
  [⟨.cpyImm b, .immediate b, 0xC0, 2, 2, .none⟩, ⟨.cpyZp b, .zeroPage b, 0xC4, 2, 3, .none⟩,
   ⟨.cpyAbs w, .absolute w, 0xCC, 3, 4, .none⟩]

/-- The forms of INC, from the Encodings line of its rule (R231). -/
def incForms (b : Byte) (w : Word) : List Form :=
  [⟨.incZp b, .zeroPage b, 0xE6, 2, 5, .none⟩, ⟨.incAbs w, .absolute w, 0xEE, 3, 6, .none⟩,
   ⟨.incZpX b, .zeroPageX b, 0xF6, 2, 6, .none⟩, ⟨.incAbsX w, .absoluteX w, 0xFE, 3, 7, .none⟩]

/-- The forms of DEC, from the Encodings line of its rule (R232). -/
def decForms (b : Byte) (w : Word) : List Form :=
  [⟨.decZp b, .zeroPage b, 0xC6, 2, 5, .none⟩, ⟨.decAbs w, .absolute w, 0xCE, 3, 6, .none⟩,
   ⟨.decZpX b, .zeroPageX b, 0xD6, 2, 6, .none⟩, ⟨.decAbsX w, .absoluteX w, 0xDE, 3, 7, .none⟩]

/-- The forms of INX, from the Encodings line of its rule (R233). -/
def inxForms : List Form :=
  [⟨.inx, .implied, 0xE8, 1, 2, .none⟩]

/-- The forms of INY, from the Encodings line of its rule (R234). -/
def inyForms : List Form :=
  [⟨.iny, .implied, 0xC8, 1, 2, .none⟩]

/-- The forms of DEX, from the Encodings line of its rule (R235). -/
def dexForms : List Form :=
  [⟨.dex, .implied, 0xCA, 1, 2, .none⟩]

/-- The forms of DEY, from the Encodings line of its rule (R236). -/
def deyForms : List Form :=
  [⟨.dey, .implied, 0x88, 1, 2, .none⟩]

/-- The accumulator form of ASL (R241). -/
def aslAForms : List Form :=
  [⟨.aslA, .accumulator, 0x0A, 1, 2, .none⟩]

/-- The memory forms of ASL (R241). -/
def aslForms (b : Byte) (w : Word) : List Form :=
  [⟨.aslZp b, .zeroPage b, 0x06, 2, 5, .none⟩, ⟨.aslAbs w, .absolute w, 0x0E, 3, 6, .none⟩,
   ⟨.aslZpX b, .zeroPageX b, 0x16, 2, 6, .none⟩, ⟨.aslAbsX w, .absoluteX w, 0x1E, 3, 7, .none⟩]

/-- The accumulator form of LSR (R242). -/
def lsrAForms : List Form :=
  [⟨.lsrA, .accumulator, 0x4A, 1, 2, .none⟩]

/-- The memory forms of LSR (R242). -/
def lsrForms (b : Byte) (w : Word) : List Form :=
  [⟨.lsrZp b, .zeroPage b, 0x46, 2, 5, .none⟩, ⟨.lsrAbs w, .absolute w, 0x4E, 3, 6, .none⟩,
   ⟨.lsrZpX b, .zeroPageX b, 0x56, 2, 6, .none⟩, ⟨.lsrAbsX w, .absoluteX w, 0x5E, 3, 7, .none⟩]

/-- The accumulator form of ROL (R243). -/
def rolAForms : List Form :=
  [⟨.rolA, .accumulator, 0x2A, 1, 2, .none⟩]

/-- The memory forms of ROL (R243). -/
def rolForms (b : Byte) (w : Word) : List Form :=
  [⟨.rolZp b, .zeroPage b, 0x26, 2, 5, .none⟩, ⟨.rolAbs w, .absolute w, 0x2E, 3, 6, .none⟩,
   ⟨.rolZpX b, .zeroPageX b, 0x36, 2, 6, .none⟩, ⟨.rolAbsX w, .absoluteX w, 0x3E, 3, 7, .none⟩]

/-- The accumulator form of ROR (R244). -/
def rorAForms : List Form :=
  [⟨.rorA, .accumulator, 0x6A, 1, 2, .none⟩]

/-- The memory forms of ROR (R244). -/
def rorForms (b : Byte) (w : Word) : List Form :=
  [⟨.rorZp b, .zeroPage b, 0x66, 2, 5, .none⟩, ⟨.rorAbs w, .absolute w, 0x6E, 3, 6, .none⟩,
   ⟨.rorZpX b, .zeroPageX b, 0x76, 2, 6, .none⟩, ⟨.rorAbsX w, .absoluteX w, 0x7E, 3, 7, .none⟩]

/-- The form of BCC (R251). -/
def bccForms (b : Byte) : List Form :=
  [⟨.bcc b, .relative b, 0x90, 2, 2, .branch⟩]

/-- The form of BCS (R252). -/
def bcsForms (b : Byte) : List Form :=
  [⟨.bcs b, .relative b, 0xB0, 2, 2, .branch⟩]

/-- The form of BEQ (R253). -/
def beqForms (b : Byte) : List Form :=
  [⟨.beq b, .relative b, 0xF0, 2, 2, .branch⟩]

/-- The form of BNE (R254). -/
def bneForms (b : Byte) : List Form :=
  [⟨.bne b, .relative b, 0xD0, 2, 2, .branch⟩]

/-- The form of BMI (R255). -/
def bmiForms (b : Byte) : List Form :=
  [⟨.bmi b, .relative b, 0x30, 2, 2, .branch⟩]

/-- The form of BPL (R256). -/
def bplForms (b : Byte) : List Form :=
  [⟨.bpl b, .relative b, 0x10, 2, 2, .branch⟩]

/-- The form of BVC (R257). -/
def bvcForms (b : Byte) : List Form :=
  [⟨.bvc b, .relative b, 0x50, 2, 2, .branch⟩]

/-- The form of BVS (R258). -/
def bvsForms (b : Byte) : List Form :=
  [⟨.bvs b, .relative b, 0x70, 2, 2, .branch⟩]

/-- The forms of JMP (R259). -/
def jmpForms (w : Word) : List Form :=
  [⟨.jmpAbs w, .absolute w, 0x4C, 3, 3, .none⟩, ⟨.jmpInd w, .indirect w, 0x6C, 3, 5, .none⟩]

/-- The form of JSR (R260). -/
def jsrForms (w : Word) : List Form :=
  [⟨.jsr w, .absolute w, 0x20, 3, 6, .none⟩]

/-- The form of RTS (R261). -/
def rtsForms : List Form :=
  [⟨.rts, .implied, 0x60, 1, 6, .none⟩]

/-- The form of PHA (R270). -/
def phaForms : List Form :=
  [⟨.pha, .implied, 0x48, 1, 3, .none⟩]

/-- The form of PLA (R271). -/
def plaForms : List Form :=
  [⟨.pla, .implied, 0x68, 1, 4, .none⟩]

/-- The form of PHP (R272). -/
def phpForms : List Form :=
  [⟨.php, .implied, 0x08, 1, 3, .none⟩]

/-- The form of PLP (R273). -/
def plpForms : List Form :=
  [⟨.plp, .implied, 0x28, 1, 4, .none⟩]

/-- The form of CLC (R274). -/
def clcForms : List Form :=
  [⟨.clc, .implied, 0x18, 1, 2, .none⟩]

/-- The form of SEC (R275). -/
def secForms : List Form :=
  [⟨.sec, .implied, 0x38, 1, 2, .none⟩]

/-- The form of CLI (R276). -/
def cliForms : List Form :=
  [⟨.cli, .implied, 0x58, 1, 2, .none⟩]

/-- The form of SEI (R277). -/
def seiForms : List Form :=
  [⟨.sei, .implied, 0x78, 1, 2, .none⟩]

/-- The form of CLD (R278). -/
def cldForms : List Form :=
  [⟨.cld, .implied, 0xD8, 1, 2, .none⟩]

/-- The form of SED (R279). -/
def sedForms : List Form :=
  [⟨.sed, .implied, 0xF8, 1, 2, .none⟩]

/-- The form of CLV (R280). -/
def clvForms : List Form :=
  [⟨.clv, .implied, 0xB8, 1, 2, .none⟩]

/-- The form of NOP (R281). -/
def nopForms : List Form :=
  [⟨.nop, .implied, 0xEA, 1, 2, .none⟩]

/-- The form of BRK (R282). -/
def brkForms : List Form :=
  [⟨.brk, .implied, 0x00, 1, 7, .none⟩]

/-- The form of RTI (R283). -/
def rtiForms : List Form :=
  [⟨.rti, .implied, 0x40, 1, 6, .none⟩]

/-- The forms of LAX (R291). -/
def laxForms (b : Byte) (w : Word) : List Form :=
  [⟨.laxIndX b, .indirectX b, 0xA3, 2, 6, .none⟩, ⟨.laxZp b, .zeroPage b, 0xA7, 2, 3, .none⟩,
   ⟨.laxAbs w, .absolute w, 0xAF, 3, 4, .none⟩, ⟨.laxIndY b, .indirectY b, 0xB3, 2, 5, .page⟩,
   ⟨.laxZpY b, .zeroPageY b, 0xB7, 2, 4, .none⟩, ⟨.laxAbsY w, .absoluteY w, 0xBF, 3, 4, .page⟩]

/-- The forms of SAX (R292). -/
def saxForms (b : Byte) (w : Word) : List Form :=
  [⟨.saxIndX b, .indirectX b, 0x83, 2, 6, .none⟩, ⟨.saxZp b, .zeroPage b, 0x87, 2, 3, .none⟩,
   ⟨.saxAbs w, .absolute w, 0x8F, 3, 4, .none⟩, ⟨.saxZpY b, .zeroPageY b, 0x97, 2, 4, .none⟩]

/-- The forms of DCP (R293). -/
def dcpForms (b : Byte) (w : Word) : List Form :=
  [⟨.dcpIndX b, .indirectX b, 0xC3, 2, 8, .none⟩, ⟨.dcpZp b, .zeroPage b, 0xC7, 2, 5, .none⟩,
   ⟨.dcpAbs w, .absolute w, 0xCF, 3, 6, .none⟩, ⟨.dcpIndY b, .indirectY b, 0xD3, 2, 8, .none⟩,
   ⟨.dcpZpX b, .zeroPageX b, 0xD7, 2, 6, .none⟩, ⟨.dcpAbsY w, .absoluteY w, 0xDB, 3, 7, .none⟩,
   ⟨.dcpAbsX w, .absoluteX w, 0xDF, 3, 7, .none⟩]

/-- The forms of ISB (R294). -/
def isbForms (b : Byte) (w : Word) : List Form :=
  [⟨.isbIndX b, .indirectX b, 0xE3, 2, 8, .none⟩, ⟨.isbZp b, .zeroPage b, 0xE7, 2, 5, .none⟩,
   ⟨.isbAbs w, .absolute w, 0xEF, 3, 6, .none⟩, ⟨.isbIndY b, .indirectY b, 0xF3, 2, 8, .none⟩,
   ⟨.isbZpX b, .zeroPageX b, 0xF7, 2, 6, .none⟩, ⟨.isbAbsY w, .absoluteY w, 0xFB, 3, 7, .none⟩,
   ⟨.isbAbsX w, .absoluteX w, 0xFF, 3, 7, .none⟩]

/-- The forms of SLO (R295). -/
def sloForms (b : Byte) (w : Word) : List Form :=
  [⟨.sloIndX b, .indirectX b, 0x03, 2, 8, .none⟩, ⟨.sloZp b, .zeroPage b, 0x07, 2, 5, .none⟩,
   ⟨.sloAbs w, .absolute w, 0x0F, 3, 6, .none⟩, ⟨.sloIndY b, .indirectY b, 0x13, 2, 8, .none⟩,
   ⟨.sloZpX b, .zeroPageX b, 0x17, 2, 6, .none⟩, ⟨.sloAbsY w, .absoluteY w, 0x1B, 3, 7, .none⟩,
   ⟨.sloAbsX w, .absoluteX w, 0x1F, 3, 7, .none⟩]

/-- The forms of RLA (R296). -/
def rlaForms (b : Byte) (w : Word) : List Form :=
  [⟨.rlaIndX b, .indirectX b, 0x23, 2, 8, .none⟩, ⟨.rlaZp b, .zeroPage b, 0x27, 2, 5, .none⟩,
   ⟨.rlaAbs w, .absolute w, 0x2F, 3, 6, .none⟩, ⟨.rlaIndY b, .indirectY b, 0x33, 2, 8, .none⟩,
   ⟨.rlaZpX b, .zeroPageX b, 0x37, 2, 6, .none⟩, ⟨.rlaAbsY w, .absoluteY w, 0x3B, 3, 7, .none⟩,
   ⟨.rlaAbsX w, .absoluteX w, 0x3F, 3, 7, .none⟩]

/-- The forms of SRE (R297). -/
def sreForms (b : Byte) (w : Word) : List Form :=
  [⟨.sreIndX b, .indirectX b, 0x43, 2, 8, .none⟩, ⟨.sreZp b, .zeroPage b, 0x47, 2, 5, .none⟩,
   ⟨.sreAbs w, .absolute w, 0x4F, 3, 6, .none⟩, ⟨.sreIndY b, .indirectY b, 0x53, 2, 8, .none⟩,
   ⟨.sreZpX b, .zeroPageX b, 0x57, 2, 6, .none⟩, ⟨.sreAbsY w, .absoluteY w, 0x5B, 3, 7, .none⟩,
   ⟨.sreAbsX w, .absoluteX w, 0x5F, 3, 7, .none⟩]

/-- The forms of RRA (R298). -/
def rraForms (b : Byte) (w : Word) : List Form :=
  [⟨.rraIndX b, .indirectX b, 0x63, 2, 8, .none⟩, ⟨.rraZp b, .zeroPage b, 0x67, 2, 5, .none⟩,
   ⟨.rraAbs w, .absolute w, 0x6F, 3, 6, .none⟩, ⟨.rraIndY b, .indirectY b, 0x73, 2, 8, .none⟩,
   ⟨.rraZpX b, .zeroPageX b, 0x77, 2, 6, .none⟩, ⟨.rraAbsY w, .absoluteY w, 0x7B, 3, 7, .none⟩,
   ⟨.rraAbsX w, .absoluteX w, 0x7F, 3, 7, .none⟩]

/-- The undocumented NOPs without an operand (R299). -/
def nopImpliedForms : List Form :=
  [⟨.nop1A, .implied, 0x1A, 1, 2, .none⟩, ⟨.nop3A, .implied, 0x3A, 1, 2, .none⟩,
   ⟨.nop5A, .implied, 0x5A, 1, 2, .none⟩, ⟨.nop7A, .implied, 0x7A, 1, 2, .none⟩,
   ⟨.nopDA, .implied, 0xDA, 1, 2, .none⟩, ⟨.nopFA, .implied, 0xFA, 1, 2, .none⟩]

/-- The undocumented NOPs with an operand (R299). -/
def nopReadForms (b : Byte) (w : Word) : List Form :=
  [⟨.nopZp04 b, .zeroPage b, 0x04, 2, 3, .none⟩, ⟨.nopAbs w, .absolute w, 0x0C, 3, 4, .none⟩,
   ⟨.nopZpX14 b, .zeroPageX b, 0x14, 2, 4, .none⟩, ⟨.nopAbsX1C w, .absoluteX w, 0x1C, 3, 4, .page⟩,
   ⟨.nopZpX34 b, .zeroPageX b, 0x34, 2, 4, .none⟩, ⟨.nopAbsX3C w, .absoluteX w, 0x3C, 3, 4, .page⟩,
   ⟨.nopZp44 b, .zeroPage b, 0x44, 2, 3, .none⟩, ⟨.nopZpX54 b, .zeroPageX b, 0x54, 2, 4, .none⟩,
   ⟨.nopAbsX5C w, .absoluteX w, 0x5C, 3, 4, .page⟩, ⟨.nopZp64 b, .zeroPage b, 0x64, 2, 3, .none⟩,
   ⟨.nopZpX74 b, .zeroPageX b, 0x74, 2, 4, .none⟩, ⟨.nopAbsX7C w, .absoluteX w, 0x7C, 3, 4, .page⟩,
   ⟨.nopImm80 b, .immediate b, 0x80, 2, 2, .none⟩, ⟨.nopImm82 b, .immediate b, 0x82, 2, 2, .none⟩,
   ⟨.nopImm89 b, .immediate b, 0x89, 2, 2, .none⟩, ⟨.nopImmC2 b, .immediate b, 0xC2, 2, 2, .none⟩,
   ⟨.nopZpXD4 b, .zeroPageX b, 0xD4, 2, 4, .none⟩, ⟨.nopAbsXDC w, .absoluteX w, 0xDC, 3, 4, .page⟩,
   ⟨.nopImmE2 b, .immediate b, 0xE2, 2, 2, .none⟩, ⟨.nopZpXF4 b, .zeroPageX b, 0xF4, 2, 4, .none⟩,
   ⟨.nopAbsXFC w, .absoluteX w, 0xFC, 3, 4, .page⟩]

/-- The undocumented SBC (R300). -/
def sbcUndocumentedForms (b : Byte) : List Form :=
  [⟨.sbcImmEB b, .immediate b, 0xEB, 2, 2, .none⟩]

/-- The forms of ANC, whose operand no step reads (R311). -/
def ancForms (b : Byte) : List Form :=
  [⟨.ancImm0B b, .immediate b, 0x0B, 2, 2, .none⟩, ⟨.ancImm2B b, .immediate b, 0x2B, 2, 2, .none⟩]

/-- The forms of ARR, whose operand no step reads (R312). -/
def arrForms (b : Byte) : List Form :=
  [⟨.arrImm b, .immediate b, 0x6B, 2, 2, .none⟩]

/-- The forms of ASR, whose operand no step reads (R313). -/
def asrForms (b : Byte) : List Form :=
  [⟨.asrImm b, .immediate b, 0x4B, 2, 2, .none⟩]

/-- The forms of LXA, whose operand no step reads (R314). -/
def lxaForms (b : Byte) : List Form :=
  [⟨.lxaImm b, .immediate b, 0xAB, 2, 2, .none⟩]

/-- The forms of SHA, whose operand no step reads (R315). -/
def shaForms (b : Byte) (w : Word) : List Form :=
  [⟨.shaIndY b, .indirectY b, 0x93, 2, 6, .none⟩, ⟨.shaAbsY w, .absoluteY w, 0x9F, 3, 5, .none⟩]

/-- The forms of SBX, whose operand no step reads (R316). -/
def sbxForms (b : Byte) : List Form :=
  [⟨.sbxImm b, .immediate b, 0xCB, 2, 2, .none⟩]

/-- The forms of LAE, whose operand no step reads (R317). -/
def laeForms (w : Word) : List Form :=
  [⟨.laeAbsY w, .absoluteY w, 0xBB, 3, 4, .page⟩]

/-- The forms of SHX, whose operand no step reads (R318). -/
def shxForms (w : Word) : List Form :=
  [⟨.shxAbsY w, .absoluteY w, 0x9E, 3, 5, .none⟩]

/-- The forms of SHY, whose operand no step reads (R319). -/
def shyForms (w : Word) : List Form :=
  [⟨.shyAbsX w, .absoluteX w, 0x9C, 3, 5, .none⟩]

/-- The forms of ANE, whose operand no step reads (R320). -/
def aneForms (b : Byte) : List Form :=
  [⟨.aneImm b, .immediate b, 0x8B, 2, 2, .none⟩]

/-- The forms of SHS, whose operand no step reads (R321). -/
def shsForms (w : Word) : List Form :=
  [⟨.shsAbsY w, .absoluteY w, 0x9B, 3, 5, .none⟩]

/-- The forms of JAM (R322). -/
def jamForms : List Form :=
  [⟨.jam02, .implied, 0x02, 1, 0, .none⟩, ⟨.jam12, .implied, 0x12, 1, 0, .none⟩,
   ⟨.jam22, .implied, 0x22, 1, 0, .none⟩, ⟨.jam32, .implied, 0x32, 1, 0, .none⟩,
   ⟨.jam42, .implied, 0x42, 1, 0, .none⟩, ⟨.jam52, .implied, 0x52, 1, 0, .none⟩,
   ⟨.jam62, .implied, 0x62, 1, 0, .none⟩, ⟨.jam72, .implied, 0x72, 1, 0, .none⟩,
   ⟨.jam92, .implied, 0x92, 1, 0, .none⟩, ⟨.jamB2, .implied, 0xB2, 1, 0, .none⟩,
   ⟨.jamD2, .implied, 0xD2, 1, 0, .none⟩, ⟨.jamF2, .implied, 0xF2, 1, 0, .none⟩]

end Sys2Proof.Machine

open Sys2Proof Sys2Proof.Machine

/-- Decode and encode agree on every well-formed instruction, every operand value, whatever bytes follow
(30_encoding.md R120 to R125). -/
def Obligations.EncodeThenDecodeGivesInstr : Prop :=
  ∀ (i : Instr) (rest : List Byte), i.wf = true → decode (encode i ++ rest) = .ok (i, rest)

/-- Every instruction is well formed: its row is self-consistent and its encoding fits the row (30_encoding.md R120,
R124, 40 R157). -/
def Obligations.EveryInstrIsWellFormed : Prop :=
  ∀ i : Instr, i.wf = true

/-- The decoder is total on strings of three bytes or more, and loses no bit of what it reads (30_encoding.md R127,
R128). -/
def Obligations.EveryByteStringDecodes : Prop :=
  ∀ (op l h : Byte) (rest : List Byte),
    ∃ i r, decode (op :: l :: h :: rest) = .ok (i, r) ∧ encode i ++ r = op :: l :: h :: rest

/-- Encodings the spec writes out, decoded (30_encoding.md R122, R135, 95_test_vectors.md). -/
def Obligations.SpecWordsDecode : Prop :=
  decode [0xA9, 0x05] = .ok (.ldaImm 0x05, []) ∧ decode [0xAA] = .ok (.tax, []) ∧
  decode [0x00] = .ok (.brk, []) ∧ decode [0xAD, 0x34, 0x12] = .ok (.ldaAbs 0x1234, []) ∧
  decode [0xB1, 0x10] = .ok (.ldaIndY 0x10, []) ∧ decode [0x6C, 0xFF, 0x40] = .ok (.jmpInd 0x40FF, []) ∧
  decode [0xD0, 0xF9] = .ok (.bne 0xF9, []) ∧ decode [0x20, 0x00, 0x90] = .ok (.jsr 0x9000, []) ∧
  decode [0x0A] = .ok (.aslA, []) ∧ decode [0x07, 0x10] = .ok (.sloZp 0x10, []) ∧
  decode [0x02] = .ok (.jam02, []) ∧ decode [0x0B, 0x80] = .ok (.ancImm0B 0x80, []) ∧
  decode [0x9C, 0x00, 0x02] = .ok (.shyAbsX 0x0200, [])

/-- A step is: the polls, the reads, exec of the decoded instruction with pc at opaddr + 1 and extra reset, then steps
8 and 9 (40 R150); an unsupported row stops at step 4, with the opcode byte alone read (R154). -/
def Obligations.StepRunsDecodedInstruction : Prop :=
  ∀ (s : State) (n : Nat) (op : Byte) (operand : List Byte) (i : Instr) (d : Descriptor) (b : Build) (u : State),
    s.status = .running →
    readBytes (n + 1) (pollInterrupts s).pc (pollInterrupts s) = (op :: operand, u) →
    decode (op :: operand) = .ok (i, []) → i.wf = true → lookup op = some (d, b) →
    step s = afterExec d (exec i (
      if d.mnemonic.unsupported then
        { (memRead (pollInterrupts s).pc (pollInterrupts s)).2 with pc := (pollInterrupts s).pc + 1 }
      else { u with pc := (pollInterrupts s).pc + 1, extra := 0 }))

/-- A step from a Running machine completes, or faults as the 25 unsupported bytes do, charging no tick of its own (60
R330, R331). -/
def Obligations.StepCompletesOrFaultsUnsupported : Prop :=
  ∀ s : State, s.status = .running →
    (∃ t, step s = .next t ∧ t.status = .running) ∨
    (∃ op opaddr t, step s = .fault (.unsupportedInstruction op opaddr t) ∧
      t.status = .faulted (.unsupportedInstruction op opaddr) ∧ t.pc = opaddr + 1 ∧
      t.cycles = (pollInterrupts s).cycles)

/-- A Faulted machine takes no further iteration; reset leaves Faulted (10_state.md R30, 70 R360). That the step
answers the same fault again with the state unchanged is the choice of the model (log entry 8). -/
def Obligations.FaultedMachineTakesNoIteration : Prop :=
  ∀ (s : State) (op : Byte) (m : Mode) (opaddr : Word),
    (s.status = .faulted (.unsupportedInstruction op opaddr) →
      step s = .fault (.unsupportedInstruction op opaddr s)) ∧
    (s.status = .faulted (.resolverContract m opaddr) → step s = .fault (.resolverContract m opaddr s)) ∧
    (hostReset s).status = .running

/-- ResolverContract is raised by the resolver on three tags and reached by no instruction (60 R332, 40 R172). -/
def Obligations.ResolverContractNeverRaised : Prop :=
  (∀ s : State, resolve .accumulator s = .error (.resolverContract .accumulator (s.pc - 1)) ∧
    resolve .implied s = .error (.resolverContract .implied (s.pc - 1)) ∧
    resolve .noneAddressing s = .error (.resolverContract .noneAddressing (s.pc - 1))) ∧
  (∀ (i : Instr) (s : State) (m : Mode) (opaddr : Word) (t : State),
    exec i s ≠ .fault (.resolverContract m opaddr t)) ∧
  (∀ (s : State) (m : Mode) (opaddr : Word) (t : State),
    s.status = .running → step s ≠ .fault (.resolverContract m opaddr t))

/-- The charge of an iteration: 2 for an entry, then base cycles plus extra, extra being 0, at most 1 or at most 2 by
class (40 R157, R158, 70 R368, R369). -/
def Obligations.CyclesOfAnIteration : Prop :=
  ∀ (s : State) (i : Instr) (d : Descriptor) (u v t : State),
    s.status = .running → fetch (pollInterrupts s) = .instr i d u → exec i u = .next v → step s = .next t →
    ∃ entry x,
      entry = (if s.nmiPending = true ∨ s.irqPending = true ∧ getFlag .I s.p = false then 2 else 0) ∧
      (pollInterrupts s).cycles = s.cycles + entry ∧
      (pollInterrupts s).events = (if entry = 2 then .tick 2 :: s.events else s.events) ∧
      t.cycles = s.cycles + entry + d.cycles + x ∧ t.events = .tick (d.cycles + x) :: v.events ∧
      (d.penalty = .none → x = 0) ∧ (d.penalty = .page → x ≤ 1 ∧ x = v.extra) ∧
      (d.penalty = .branch → x ≤ 2 ∧ x = v.extra)

/-- The invariant State.Inv is kept by every step from every state that has it (10_state.md R26, R35). -/
def Obligations.StepKeepsSoundMachine : Prop :=
  ∀ s t : State, s.Inv → step s = .next t → t.Inv

/-- The invariant holds at reset; the RAM contents and the blank cartridge there are the choices of log entries 1 and
2. -/
def Obligations.ResetIsSound : Prop :=
  State.reset.Inv

/-- The cartridge and the mapper variant are fixed: no step changes them (10_state.md R35, 20_memory.md R53). -/
def Obligations.StepNeverChangesTheCartridge : Prop :=
  ∀ s t : State, step s = .next t → t.cart = s.cart ∧
    (match s.mapper, t.mapper with
     | .direct, .direct => True
     | .shiftRegister _, .shiftRegister _ => True
     | .latchA _, .latchA _ => True
     | .latchB _, .latchB _ => True
     | _, _ => False)

/-- reset() (70 R360). -/
def Obligations.HostResetSetsThePattern : Prop :=
  ∀ s : State,
    (hostReset s).a = 0x00 ∧ (hostReset s).x = 0x00 ∧ (hostReset s).y = 0x00 ∧ (hostReset s).sp = 0xFD ∧
    (hostReset s).p = 0x24 ∧ (hostReset s).nmiPending = false ∧ (hostReset s).irqPending = false ∧
    (hostReset s).status = .running ∧ (hostReset s).pc = vectorTarget s 0xFFFC ∧
    (hostReset s).ram = s.ram ∧ (hostReset s).cycles = s.cycles ∧ (hostReset s).mapper = s.mapper ∧
    (hostReset s).cart = s.cart ∧ (hostReset s).events = s.events ∧ (hostReset s).devAnswers = s.devAnswers ∧
    (hostReset s).tickInputs = s.tickInputs ∧ (hostReset s).draws = s.draws

/-- Power-on and its refusals (70 R361, R362, 20_memory.md R91) with every value of 10_state.md R36; the refusal of
stores not in canonical form is log entry 21. -/
def Obligations.PowerOnLoadsOrRefuses : Prop :=
  ∀ (n : Nat) (c : Cartridge) (ram : Memory),
    (n ≠ 0 → n ≠ 1 → n ≠ 9 → n ≠ 10 → powerOn n c ram = .refused (.unknownMapper n)) ∧
    (n = 0 ∨ n = 1 ∨ n = 9 ∨ n = 10 →
      (¬(LegalCartridge n c ∧ Memory.wf 2048 ram) → powerOn n c ram = .refused .malformedCartridge) ∧
      (LegalCartridge n c → Memory.wf 2048 ram →
        ∃ t, powerOn n c ram = .next t ∧ t.Inv ∧ t.mapper.AtLoad n ∧ t.cart = c ∧ t.ram = ram ∧ t.cycles = 0 ∧
          t.a = 0x00 ∧ t.x = 0x00 ∧ t.y = 0x00 ∧ t.sp = 0xFD ∧ t.p = 0x24 ∧ t.pc = vectorTarget t 0xFFFC ∧
          t.status = .running ∧ t.extra = 0 ∧ t.nmiPending = false ∧ t.irqPending = false))

/-- LDA, LDX, LDY (41 R200, R201, R202). -/
def Obligations.LoadsSetRegisterAndNZ : Prop :=
  ∀ (s : State) (b : Byte) (w : Word),
    (∀ f ∈ ldaForms b w, f.Listed ∧ f.Reads s [.a] [.Z, .N] fun m t => t.a = m ∧ NZ m t) ∧
    (∀ f ∈ ldxForms b w, f.Listed ∧ f.Reads s [.x] [.Z, .N] fun m t => t.x = m ∧ NZ m t) ∧
    (∀ f ∈ ldyForms b w, f.Listed ∧ f.Reads s [.y] [.Z, .N] fun m t => t.y = m ∧ NZ m t)

/-- STA, STX, STY (41 R203, R204, R205). -/
def Obligations.StoresWriteOneByte : Prop :=
  ∀ (s : State) (b : Byte) (w : Word),
    (∀ f ∈ staForms b w, f.Listed ∧ f.Stores s s.a) ∧
    (∀ f ∈ stxForms b w, f.Listed ∧ f.Stores s s.x) ∧
    (∀ f ∈ styForms b w, f.Listed ∧ f.Stores s s.y)

/-- The register transfers (41 R206 to R211). -/
def Obligations.TransfersCopyARegister : Prop :=
  ∀ s : State,
    (∀ f ∈ taxForms, f.Listed ∧ f.Internal s [.x] [.Z, .N] fun t => t.x = s.a ∧ NZ s.a t) ∧
    (∀ f ∈ tayForms, f.Listed ∧ f.Internal s [.y] [.Z, .N] fun t => t.y = s.a ∧ NZ s.a t) ∧
    (∀ f ∈ txaForms, f.Listed ∧ f.Internal s [.a] [.Z, .N] fun t => t.a = s.x ∧ NZ s.x t) ∧
    (∀ f ∈ tyaForms, f.Listed ∧ f.Internal s [.a] [.Z, .N] fun t => t.a = s.y ∧ NZ s.y t) ∧
    (∀ f ∈ tsxForms, f.Listed ∧ f.Internal s [.x] [.Z, .N] fun t => t.x = s.sp ∧ NZ s.sp t) ∧
    (∀ f ∈ txsForms, f.Listed ∧ f.Internal s [.sp] [] fun t => t.sp = s.x)

/-- ADC (42 R222, R220). -/
def Obligations.AdcAddsWithCarry : Prop :=
  ∀ (s : State) (b : Byte) (w : Word),
    (∀ f ∈ adcForms b w, f.Listed ∧ f.Reads s [.a] [.C, .Z, .V, .N] fun m t => Added s.a m (getFlag .C s.p) t)

/-- SBC and its undocumented byte EB (42 R223, 46 R300). -/
def Obligations.SbcSubtractsWithBorrow : Prop :=
  ∀ (s : State) (b : Byte) (w : Word),
    (∀ f ∈ sbcForms b w, f.Listed ∧ f.Reads s [.a] [.C, .Z, .V, .N] fun m t => Subtracted s.a m (getFlag .C s.p) t) ∧
    (∀ f ∈ sbcUndocumentedForms b, f.Listed ∧ f.Reads s [.a] [.C, .Z, .V, .N] fun m t => Subtracted s.a m (getFlag .C s.p) t)

/-- AND, ORA, EOR (42 R224, R225, R226). -/
def Obligations.LogicCombinesWithA : Prop :=
  ∀ (s : State) (b : Byte) (w : Word),
    (∀ f ∈ andForms b w, f.Listed ∧ f.Reads s [.a] [.Z, .N] fun m t => 
      (∀ k, t.a.getLsbD k = (s.a.getLsbD k && m.getLsbD k)) ∧ NZ t.a t) ∧
    (∀ f ∈ oraForms b w, f.Listed ∧ f.Reads s [.a] [.Z, .N] fun m t => 
      (∀ k, t.a.getLsbD k = (s.a.getLsbD k || m.getLsbD k)) ∧ NZ t.a t) ∧
    (∀ f ∈ eorForms b w, f.Listed ∧ f.Reads s [.a] [.Z, .N] fun m t => 
      (∀ k, t.a.getLsbD k = (s.a.getLsbD k ^^ m.getLsbD k)) ∧ NZ t.a t)

/-- BIT (42 R227). -/
def Obligations.BitTestsMemory : Prop :=
  ∀ (s : State) (b : Byte) (w : Word),
    (∀ f ∈ bitForms b w, f.Listed ∧ f.Reads s [] [.Z, .V, .N] fun m t => 
      getFlag .Z t.p = decide (s.a &&& m = 0) ∧ getFlag .N t.p = decide (128 ≤ m.toNat) ∧
      getFlag .V t.p = decide (64 ≤ m.toNat % 128))

/-- CMP, CPX, CPY (42 R221, R228, R229, R230). -/
def Obligations.ComparesSetCZN : Prop :=
  ∀ (s : State) (b : Byte) (w : Word),
    (∀ f ∈ cmpForms b w, f.Listed ∧ f.Reads s [] [.C, .Z, .N] fun m t => Compared s.a m t) ∧
    (∀ f ∈ cpxForms b w, f.Listed ∧ f.Reads s [] [.C, .Z, .N] fun m t => Compared s.x m t) ∧
    (∀ f ∈ cpyForms b w, f.Listed ∧ f.Reads s [] [.C, .Z, .N] fun m t => Compared s.y m t)

/-- INC, DEC (42 R231, R232). -/
def Obligations.IncDecModifyMemory : Prop :=
  ∀ (s : State) (b : Byte) (w : Word),
    (∀ f ∈ incForms b w, f.Listed ∧ f.Modifies s [] [.Z, .N] fun m r t =>
      r.toNat = (m.toNat + 1) % 256 ∧ NZ r t) ∧
    (∀ f ∈ decForms b w, f.Listed ∧ f.Modifies s [] [.Z, .N] fun m r t =>
      r.toNat = (m.toNat + 255) % 256 ∧ NZ r t)

/-- INX, INY, DEX, DEY (42 R233 to R236). -/
def Obligations.IncDecRegisters : Prop :=
  ∀ s : State,
    (∀ f ∈ inxForms, f.Listed ∧ f.Internal s [.x] [.Z, .N] fun t => t.x.toNat = (s.x.toNat + 1) % 256 ∧ NZ t.x t) ∧
    (∀ f ∈ inyForms, f.Listed ∧ f.Internal s [.y] [.Z, .N] fun t => t.y.toNat = (s.y.toNat + 1) % 256 ∧ NZ t.y t) ∧
    (∀ f ∈ dexForms, f.Listed ∧ f.Internal s [.x] [.Z, .N] fun t => t.x.toNat = (s.x.toNat + 255) % 256 ∧ NZ t.x t) ∧
    (∀ f ∈ deyForms, f.Listed ∧ f.Internal s [.y] [.Z, .N] fun t => t.y.toNat = (s.y.toNat + 255) % 256 ∧ NZ t.y t)

/-- The shifts and rotates in every mode (43 R240 to R244). -/
def Obligations.ShiftsMoveBitsThroughCarry : Prop :=
  (∀ (s : State), ∀ q ∈ [(Shift.asl, aslAForms), (.lsr, lsrAForms), (.rol, rolAForms), (.ror, rorAForms)], ∀ f ∈ q.2,
    f.Listed ∧ f.Internal s [.a] [.C, .Z, .N] fun t =>
      t.a.toNat = q.1.result s.a.toNat (getFlag .C s.p) ∧ getFlag .C t.p = q.1.out s.a.toNat ∧ NZ t.a t) ∧
  (∀ (s : State) (b : Byte) (w : Word),
    ∀ q ∈ [(Shift.asl, aslForms b w), (.lsr, lsrForms b w), (.rol, rolForms b w), (.ror, rorForms b w)], ∀ f ∈ q.2,
    f.Listed ∧ f.Modifies s [] [.C, .Z, .N] fun m r t =>
      r.toNat = q.1.result m.toNat (getFlag .C s.p) ∧ getFlag .C t.p = q.1.out m.toNat ∧ NZ r t)

/-- The eight conditional branches (44 R250 to R258). -/
def Obligations.BranchesTakeOrFallThrough : Prop :=
  ∀ (s : State) (b : Byte),
    ∀ q ∈ [(bccForms b, Flag.C, false), (bcsForms b, .C, true), (beqForms b, .Z, true),
           (bneForms b, .Z, false), (bmiForms b, .N, true), (bplForms b, .N, false),
           (bvcForms b, .V, false), (bvsForms b, .V, true)], ∀ f ∈ q.1,
    f.Listed ∧ ∃ t, exec f.i s = .next t ∧ Branched b (decide (getFlag q.2.1 s.p = q.2.2)) s t ∧
      Keeps [] [] s t ∧ SameMemory s t ∧
      t.devAnswers = s.devAnswers ∧ t.draws = s.draws ∧ t.events = s.events

/-- JMP in both modes, with the page-wrap defect (44 R259, 40 R168). -/
def Obligations.JumpsSetPc : Prop :=
  ∀ (s : State) (w : Word),
    (∀ f ∈ jmpForms w, f.Listed) ∧
    (∃ t, exec (.jmpAbs w) s = .next t ∧ t.pc = w ∧ Keeps [] [] s t ∧ SameMemory s t ∧ SameRecord s t) ∧
    (∃ l u h v t, memRead w s = (l, u) ∧
      memRead (BitVec.ofNat 16 (w.toNat / 256 * 256 + (w.toNat + 1) % 256)) u = (h, v) ∧
      resolve (.indirect w) s = .ok (t.pc, v) ∧
      exec (.jmpInd w) s = .next t ∧ t.pc.toNat = h.toNat * 256 + l.toNat ∧ Keeps [] [] s t ∧ SameMemory s t ∧
      SameRecord v t)

/-- JSR (44 R260); pc is opaddr + 1 when the rule runs, so opaddr + 2 is pc + 1. -/
def Obligations.JsrPushesItsLastByteAddress : Prop :=
  ∀ (s : State) (w : Word), (∀ f ∈ jsrForms w, f.Listed) ∧
    ∃ t, exec (.jsr w) s = .next t ∧ t.pc = w ∧ t.sp.toNat = (s.sp.toNat + 254) % 256 ∧
      (∀ k, t.ram.read k =
        if k = 256 + (s.sp.toNat + 255) % 256 then lo (s.pc + 1)
        else if k = 256 + s.sp.toNat then hi (s.pc + 1) else s.ram.read k) ∧
      t.mapper = s.mapper ∧ Keeps [.sp] [] s t ∧ SameRecord s t

/-- RTS (44 R261). -/
def Obligations.RtsReturnsPastThePulledAddress : Prop :=
  ∀ s : State, (∀ f ∈ rtsForms, f.Listed) ∧
    ∃ t, exec .rts s = .next t ∧
      t.pc.toNat = ((s.ram.read (256 + (s.sp.toNat + 2) % 256)).toNat * 256 +
        (s.ram.read (256 + (s.sp.toNat + 1) % 256)).toNat + 1) % 65536 ∧
      t.sp.toNat = (s.sp.toNat + 2) % 256 ∧ Keeps [.sp] [] s t ∧ SameMemory s t ∧ SameRecord s t

/-- PHA, PHP (45 R270, R272). -/
def Obligations.PushesOfAAndP : Prop :=
  ∀ s : State,
    (∀ f ∈ phaForms, f.Listed) ∧ (∀ f ∈ phpForms, f.Listed) ∧
    (∃ t, exec .pha s = .next t ∧ (∀ k, t.ram.read k = if k = 256 + s.sp.toNat then s.a else s.ram.read k) ∧
      t.sp.toNat = (s.sp.toNat + 255) % 256 ∧ t.pc = s.pc ∧ t.mapper = s.mapper ∧ Keeps [.sp] [] s t ∧ SameRecord s t) ∧
    (∃ t q, exec .php s = .next t ∧ (∀ k, t.ram.read k = if k = 256 + s.sp.toNat then q else s.ram.read k) ∧
      (∀ f, getFlag f q = if f = .B ∨ f = .U then true else getFlag f s.p) ∧
      t.sp.toNat = (s.sp.toNat + 255) % 256 ∧ t.pc = s.pc ∧ t.p = s.p ∧ t.mapper = s.mapper ∧
      Keeps [.sp] [] s t ∧ SameRecord s t)

/-- PLA, PLP (45 R271, R273). -/
def Obligations.PullsOfAAndP : Prop :=
  ∀ s : State,
    (∀ f ∈ plaForms, f.Listed) ∧ (∀ f ∈ plpForms, f.Listed) ∧
    (∃ t, exec .pla s = .next t ∧ t.a = s.ram.read (256 + (s.sp.toNat + 1) % 256) ∧ NZ t.a t ∧
      t.sp.toNat = (s.sp.toNat + 1) % 256 ∧ t.pc = s.pc ∧ Keeps [.a, .sp] [.Z, .N] s t ∧ SameMemory s t ∧
      SameRecord s t) ∧
    (∃ t, exec .plp s = .next t ∧
      (∀ f, getFlag f t.p =
        if f = .B then false else if f = .U then true
        else getFlag f (s.ram.read (256 + (s.sp.toNat + 1) % 256))) ∧
      t.sp.toNat = (s.sp.toNat + 1) % 256 ∧ t.pc = s.pc ∧
      Keeps [.sp] [.C, .Z, .I, .D, .B, .U, .V, .N] s t ∧ SameMemory s t ∧ SameRecord s t)

/-- The flag instructions (45 R274 to R280), with CLI acting on the next poll. -/
def Obligations.FlagInstructionsWriteOneFlag : Prop :=
  ∀ s : State,
    (∀ q ∈ [(clcForms, Flag.C, false), (secForms, .C, true), (cliForms, .I, false),
            (seiForms, .I, true), (cldForms, .D, false), (sedForms, .D, true),
            (clvForms, .V, false)], ∀ f ∈ q.1,
      f.Listed ∧ f.Internal s [] [q.2.1] fun t => getFlag q.2.1 t.p = q.2.2) ∧
    (∃ t, exec .cli s = .next t ∧
      ∀ u : State, u.p = t.p → u.nmiPending = false → u.irqPending = true → pollInterrupts u = irqEntry u) ∧
    (∃ t, exec .sei s = .next t ∧ ∀ u : State, u.p = t.p → u.nmiPending = false → pollInterrupts u = u)

/-- NOP, official and undocumented (45 R281, 46 R299). -/
def Obligations.NopsChangeNothing : Prop :=
  ∀ (s : State) (b : Byte) (w : Word),
    (∀ f ∈ nopForms, f.Listed ∧ f.Internal s [] [] fun t => t.p = s.p) ∧
    (∀ f ∈ nopImpliedForms, f.Listed ∧ f.Internal s [] [] fun t => t.p = s.p ∧ exec f.i s = exec .nop s) ∧
    (∀ f ∈ nopReadForms b w, f.Listed ∧ f.Reads s [] [] fun _ t => t.p = s.p)

/-- BRK (45 R282), with BRK_PUSH_STYLE as documented; opaddr + 2 is pc + 1. -/
def Obligations.BrkEntersThroughTheIrqVector : Prop :=
  ∀ s : State, (∀ f ∈ brkForms, f.Listed) ∧
    ∃ t, exec .brk s = .next t ∧ FramePushed (s.pc + 1) s.p s t ∧ t.pc = vectorTarget s 0xFFFE ∧
      getFlag .B t.p = true ∧ getFlag .I t.p = true ∧ t.mapper = s.mapper ∧ Keeps [.sp] [.B, .I] s t ∧
      SameRecord s t

/-- RTI (45 R283). -/
def Obligations.RtiRestoresStatusAndPc : Prop :=
  ∀ s : State, (∀ f ∈ rtiForms, f.Listed) ∧
    ∃ t, exec .rti s = .next t ∧
      (∀ f, getFlag f t.p =
        if f = .B then false else if f = .U then true
        else getFlag f (s.ram.read (256 + (s.sp.toNat + 1) % 256))) ∧
      t.pc.toNat = (s.ram.read (256 + (s.sp.toNat + 3) % 256)).toNat * 256 +
        (s.ram.read (256 + (s.sp.toNat + 2) % 256)).toNat ∧
      t.sp.toNat = (s.sp.toNat + 3) % 256 ∧
      Keeps [.sp] [.C, .Z, .I, .D, .B, .U, .V, .N] s t ∧ SameMemory s t ∧ SameRecord s t

/-- LAX, SAX (46 R291, R292). -/
def Obligations.LaxLoadsBothSaxStoresAnd : Prop :=
  ∀ (s : State) (b : Byte) (w : Word),
    (∀ f ∈ laxForms b w, f.Listed ∧ f.Reads s [.a, .x] [.Z, .N] fun m t => t.a = m ∧ t.x = m ∧ NZ m t) ∧
    (∀ f ∈ saxForms b w, f.Listed ∧ f.Stores s (s.a &&& s.x))

/-- DCP, ISB (46 R293, R294). -/
def Obligations.DcpAndIsbModifyThenUseA : Prop :=
  ∀ (s : State) (b : Byte) (w : Word),
    (∀ f ∈ dcpForms b w, f.Listed ∧ f.Modifies s [] [.C, .Z, .N] fun m r t =>
      r.toNat = (m.toNat + 255) % 256 ∧ Compared s.a r t) ∧
    (∀ f ∈ isbForms b w, f.Listed ∧ f.Modifies s [.a] [.C, .Z, .V, .N] fun m r t =>
      r.toNat = (m.toNat + 1) % 256 ∧ Subtracted s.a r (getFlag .C s.p) t)

/-- SLO, RLA, SRE (46 R295, R296, R297). -/
def Obligations.ShiftCompositesUpdateA : Prop :=
  ∀ (s : State) (b : Byte) (w : Word),
    (∀ f ∈ sloForms b w, f.Listed ∧ f.Modifies s [.a] [.C, .Z, .N] fun m r t =>
      r.toNat = Shift.asl.result m.toNat (getFlag .C s.p) ∧ getFlag .C t.p = Shift.asl.out m.toNat ∧
      t.a = s.a ||| r ∧ NZ t.a t) ∧
    (∀ f ∈ rlaForms b w, f.Listed ∧ f.Modifies s [.a] [.C, .Z, .N] fun m r t =>
      r.toNat = Shift.rol.result m.toNat (getFlag .C s.p) ∧ getFlag .C t.p = Shift.rol.out m.toNat ∧
      t.a = s.a &&& r ∧ NZ t.a t) ∧
    (∀ f ∈ sreForms b w, f.Listed ∧ f.Modifies s [.a] [.C, .Z, .N] fun m r t =>
      r.toNat = Shift.lsr.result m.toNat (getFlag .C s.p) ∧ getFlag .C t.p = Shift.lsr.out m.toNat ∧
      t.a = s.a ^^^ r ∧ NZ t.a t)

/-- RRA (46 R298). -/
def Obligations.RraAddsWithTheShiftedOutBit : Prop :=
  ∀ (s : State) (b : Byte) (w : Word),
    (∀ f ∈ rraForms b w, f.Listed ∧ f.Modifies s [.a] [.C, .Z, .V, .N] fun m r t =>
      r.toNat = Shift.ror.result m.toNat (getFlag .C s.p) ∧ Added s.a r (decide (m.toNat % 2 = 1)) t)

/-- The unsupported instructions (47 R310 to R322): the stop is the conclusion. -/
def Obligations.UnsupportedInstructionsFault : Prop :=
  ∀ (s : State) (b : Byte) (w : Word), ∀ f ∈ ancForms b ++ arrForms b ++ asrForms b ++ lxaForms b ++ shaForms b w ++ sbxForms b ++
      laeForms w ++ shxForms w ++ shyForms w ++ aneForms b ++ shsForms w ++ jamForms,
    f.Listed ∧ exec f.i s = .fault (.unsupportedInstruction f.op (s.pc - 1)
      { s with status := .faulted (.unsupportedInstruction f.op (s.pc - 1)) })

/-- The resolver on the modes that read no pointer and add no index to a 16-bit base (40 R161 to R165, R171), and the
read of an Immediate operand (R179). That the fetch reads the operand bytes, so that no access is left to the resolver
or to readOperand, is the choice of the model (log entry 10). -/
def Obligations.DirectModesAddress : Prop :=
  ∀ (s : State) (b : Byte) (w : Word),
    resolve (.immediate b) s = .ok (s.pc, s) ∧
    (∃ ea, resolve (.zeroPage b) s = .ok (ea, s) ∧ ea.toNat = b.toNat) ∧
    (∃ ea, resolve (.zeroPageX b) s = .ok (ea, s) ∧ ea.toNat = (b.toNat + s.x.toNat) % 256) ∧
    (∃ ea, resolve (.zeroPageY b) s = .ok (ea, s) ∧ ea.toNat = (b.toNat + s.y.toNat) % 256) ∧
    resolve (.absolute w) s = .ok (w, s) ∧
    (∃ ea, resolve (.relative b) s = .ok (ea, s) ∧ (ea.toNat : Int) = ((s.pc.toNat : Int) + 1 + b.toInt) % 65536) ∧
    readOperand (.immediate b) s = .ok (b, s)

/-- The resolver on Absolute_X, Absolute_Y, Indirect_X and Indirect_Y (40 R166, R167, R169, R170), and the read of an
operand at the address it gives (R179). -/
def Obligations.IndexedAndPointerModesAddress : Prop :=
  ∀ (s : State) (b : Byte) (w : Word),
    (∃ ea, ea.toNat = (w.toNat + s.x.toNat) % 65536 ∧ resolve (.absoluteX w) s =
      .ok (ea, { s with extra := s.extra + if ea.toNat / 256 ≠ w.toNat / 256 then 1 else 0 })) ∧
    (∃ ea, ea.toNat = (w.toNat + s.y.toNat) % 65536 ∧ resolve (.absoluteY w) s =
      .ok (ea, { s with extra := s.extra + if ea.toNat / 256 ≠ w.toNat / 256 then 1 else 0 })) ∧
    (∃ ea, resolve (.indirectX b) s = .ok (ea, s) ∧
      ea.toNat = (s.ram.read ((b.toNat + s.x.toNat + 1) % 256)).toNat * 256 +
        (s.ram.read ((b.toNat + s.x.toNat) % 256)).toNat) ∧
    (∃ base ea : Nat, base = (s.ram.read ((b.toNat + 1) % 256)).toNat * 256 + (s.ram.read b.toNat).toNat ∧
      ea = (base + s.y.toNat) % 65536 ∧
      resolve (.indirectY b) s =
        .ok (BitVec.ofNat 16 ea, { s with extra := s.extra + if ea / 256 ≠ base / 256 then 1 else 0 })) ∧
    (∀ (o : Operand) (a : Word) (u : State), o.mode ≠ .immediate → resolve o s = .ok (a, u) →
      readOperand o s = .ok (memRead a u))

/-- MemRead(a, 1) (20_memory.md R52); that a device answer is the next stated one or a free value is the form log
entry 4 gives the oracle. -/
def Obligations.ReadsGoToTheOwner : Prop :=
  ∀ (a : Word) (s : State),
    (a.toNat ≤ 0x1FFF → memRead a s = (s.ram.read (a.toNat % 2048), s)) ∧
    (0x2000 ≤ a.toNat → a.toNat ≤ 0x3FFF → DeviceAnswers .ppu (BitVec.ofNat 16 (a.toNat % 8)) s (memRead a s)) ∧
    (0x4000 ≤ a.toNat → a.toNat ≤ 0x4017 → DeviceAnswers .io a s (memRead a s)) ∧
    (0x4018 ≤ a.toNat → a.toNat ≤ 0x7FFF → memRead a s = (0x00, s)) ∧
    (0x8000 ≤ a.toNat → memRead a s = (s.cart.prg.read (prgOffset s.mapper s.cart.prgLen a), s))

/-- MemWrite(a, 1, v) (20_memory.md R53); that a write to a port with registers is one event, and a write on the
direct mapper none, is the reading of the model (log entry 17). -/
def Obligations.WritesGoToTheOwner : Prop :=
  ∀ (a : Word) (v : Byte) (s : State),
    Stored a v s s (memWrite a v s) ∧ Keeps [] [] s (memWrite a v s) ∧ (memWrite a v s).pc = s.pc ∧
    (regionOf a = .ram ↔ a.toNat ≤ 0x1FFF) ∧ (regionOf a = .ppu ↔ 0x2000 ≤ a.toNat ∧ a.toNat ≤ 0x3FFF) ∧
    (regionOf a = .io ↔ 0x4000 ≤ a.toNat ∧ a.toNat ≤ 0x4017) ∧
    (regionOf a = .unmapped ↔ 0x4018 ≤ a.toNat ∧ a.toNat ≤ 0x7FFF) ∧
    (regionOf a = .mapper ↔ 0x8000 ≤ a.toNat)

/-- Work RAM mirroring (20_memory.md R54). -/
def Obligations.RamMirrorsEvery2K : Prop :=
  ∀ (k i j : Nat) (v : Byte) (s : State), k < 2048 → i < 4 → j < 4 →
    (memRead (BitVec.ofNat 16 (k + 2048 * j)) (memWrite (BitVec.ofNat 16 (k + 2048 * i)) v s)).1 = v ∧
    (k < 512 → regionOf (BitVec.ofNat 16 k) = .ram)

/-- MemRead(a, 2) (20_memory.md R64). -/
def Obligations.Read16IsLittleEndian : Prop :=
  ∀ (a : Word) (s : State), ∃ l u h v w,
    memRead a s = (l, u) ∧ memRead (BitVec.ofNat 16 ((a.toNat + 1) % 65536)) u = (h, v) ∧
    memRead16 a s = (w, v) ∧ w.toNat = 256 * h.toNat + l.toNat

/-- Push and Pop, and the last-in-first-out property with the wrap (40 R173, R174, 10_state.md R21). -/
def Obligations.StackIsLifoAndWraps : Prop :=
  (∀ (v : Byte) (s : State),
    (push v s).sp.toNat = (s.sp.toNat + 255) % 256 ∧
    (∀ k, (push v s).ram.read k = if k = 256 + s.sp.toNat then v else s.ram.read k) ∧
    (pop s).1 = s.ram.read (256 + (s.sp.toNat + 1) % 256) ∧ (pop s).2.sp.toNat = (s.sp.toNat + 1) % 256) ∧
  (∀ (vs : List Byte) (s : State), vs.length ≤ 256 →
    (popAll vs.length (pushAll vs s)).1 = vs.reverse ∧ (popAll vs.length (pushAll vs s)).2.sp = s.sp)

/-- The direct mapper (20_memory.md R71, R73). -/
def Obligations.DirectMapperMirrors16K : Prop :=
  ∀ (s : State) (a : Word) (v : Byte), s.mapper = .direct → 0x8000 ≤ a.toNat →
    (s.cart.prgLen = 32768 → readPrg s a = s.cart.prg.read (a.toNat - 0x8000)) ∧
    (s.cart.prgLen = 16384 → readPrg s a = s.cart.prg.read ((a.toNat - 0x8000) % 16384)) ∧
    (s.cart.prgLen = 16384 → 0xC000 ≤ a.toNat → readPrg s a = readPrg s (a - 0x4000)) ∧
    (memWrite a v s).mapper = .direct ∧ mirroring s = s.cart.headerMirroring

/-- The write port of the shift-register mapper (20_memory.md R75, R76). -/
def Obligations.FifthQualifyingWriteLatches : Prop :=
  (∀ (r : ShiftRegs) (a : Word) (v : Byte), 128 ≤ v.toNat →
    (shiftWrite r a v).shift = 0 ∧ (shiftWrite r a v).count = 0 ∧
    (shiftWrite r a v).control = r.control ||| 0x0C ∧ (shiftWrite r a v).chr0 = r.chr0 ∧
    (shiftWrite r a v).chr1 = r.chr1 ∧ (shiftWrite r a v).prg = r.prg) ∧
  (∀ (r : ShiftRegs) (a : Word) (v : Byte), v.toNat < 128 → r.count.val < 4 →
    (∀ k < 5, (shiftWrite r a v).shift.getLsbD k = (r.shift.getLsbD k || (decide (k = r.count.val) && v.getLsbD 0))) ∧
    (shiftWrite r a v).count.val = r.count.val + 1 ∧ (shiftWrite r a v).control = r.control ∧
    (shiftWrite r a v).chr0 = r.chr0 ∧ (shiftWrite r a v).chr1 = r.chr1 ∧ (shiftWrite r a v).prg = r.prg) ∧
  (∀ (r : ShiftRegs) (a1 a2 a3 a4 a5 : Word) (v1 v2 v3 v4 v5 : Byte), r.shift = 0 → r.count = 0 →
    v1.toNat < 128 → v2.toNat < 128 → v3.toNat < 128 → v4.toNat < 128 → v5.toNat < 128 → 0x8000 ≤ a5.toNat →
    ∃ q val, q = shiftWrites r [(a1, v1), (a2, v2), (a3, v3), (a4, v4), (a5, v5)] ∧
      val = v1.toNat % 2 + v2.toNat % 2 * 2 + v3.toNat % 2 * 4 + v4.toNat % 2 * 8 + v5.toNat % 2 * 16 ∧
      q.shift = 0 ∧ q.count = 0 ∧
      q.control.toNat = (if a5.toNat ≤ 0x9FFF then val else r.control.toNat) ∧
      q.chr0.toNat = (if 0xA000 ≤ a5.toNat ∧ a5.toNat ≤ 0xBFFF then val else r.chr0.toNat) ∧
      q.chr1.toNat = (if 0xC000 ≤ a5.toNat ∧ a5.toNat ≤ 0xDFFF then val else r.chr1.toNat) ∧
      q.prg.toNat = (if 0xE000 ≤ a5.toNat then val else r.prg.toNat)) ∧
  (∀ (s : State) (r : ShiftRegs) (a : Word) (v : Byte), s.mapper = .shiftRegister r → 0x8000 ≤ a.toNat →
    (memWrite a v s).mapper = .shiftRegister (shiftWrite r a v))

/-- read_prg of the shift-register mapper (20_memory.md R78). -/
def Obligations.ShiftMapperSelectsPrgBanks : Prop :=
  ∀ (s : State) (r : ShiftRegs) (n : Nat) (a : Word), s.mapper = .shiftRegister r → s.cart.prgLen = 16384 * n → 1 ≤ n →
    0x8000 ≤ a.toNat →
    readPrg s a = s.cart.prg.read (
      if r.control.toNat / 4 % 4 = 2 then
        if a.toNat < 0xC000 then a.toNat - 0x8000
        else (r.prg.toNat % 16 * 16384 + (a.toNat - 0xC000)) % (16384 * n)
      else if r.control.toNat / 4 % 4 = 3 then
        if a.toNat < 0xC000 then (r.prg.toNat % 16 * 16384 + (a.toNat - 0x8000)) % (16384 * n)
        else (n - 1) * 16384 + (a.toNat - 0xC000)
      else (r.prg.toNat % 16 / 2 * 2 * 16384 + (a.toNat - 0x8000)) % (16384 * n))

/-- The register port of the latch mappers (20_memory.md R85). -/
def Obligations.LatchWritesSelectByAddress : Prop :=
  ∀ (r : LatchRegs) (a : Word) (v : Byte), 0x8000 ≤ a.toNat →
    (latchWrite r a v).prg.toNat = (if 0xA000 ≤ a.toNat ∧ a.toNat ≤ 0xAFFF then v.toNat % 16 else r.prg.toNat) ∧
    (latchWrite r a v).chrFd0.toNat = (if 0xB000 ≤ a.toNat ∧ a.toNat ≤ 0xBFFF then v.toNat % 32 else r.chrFd0.toNat) ∧
    (latchWrite r a v).chrFe0.toNat = (if 0xC000 ≤ a.toNat ∧ a.toNat ≤ 0xCFFF then v.toNat % 32 else r.chrFe0.toNat) ∧
    (latchWrite r a v).chrFd1.toNat = (if 0xD000 ≤ a.toNat ∧ a.toNat ≤ 0xDFFF then v.toNat % 32 else r.chrFd1.toNat) ∧
    (latchWrite r a v).chrFe1.toNat = (if 0xE000 ≤ a.toNat ∧ a.toNat ≤ 0xEFFF then v.toNat % 32 else r.chrFe1.toNat) ∧
    (latchWrite r a v).mirror.toNat = (if 0xF000 ≤ a.toNat then v.toNat % 2 else r.mirror.toNat) ∧
    (latchWrite r a v).latch0 = r.latch0 ∧ (latchWrite r a v).latch1 = r.latch1 ∧
    (∀ s : State, (s.mapper = .latchA r → (memWrite a v s).mapper = .latchA (latchWrite r a v)) ∧
      (s.mapper = .latchB r → (memWrite a v s).mapper = .latchB (latchWrite r a v)))

/-- read_chr of the latch mappers (20_memory.md R87). -/
def Obligations.PatternReadUsesTheOldLatch : Prop :=
  ∀ (s : State) (r : LatchRegs) (a : PpuAddr) (wide : Bool),
    s.mapper = (if wide then .latchB r else .latchA r) →
    ∃ bank q drawn,
      bank = (if a.toNat < 0x1000 then (match r.latch0 with | .fd => r.chrFd0 | .fe => r.chrFe0)
        else (match r.latch1 with | .fd => r.chrFd1 | .fe => r.chrFe1)) ∧
      (s.cart.chrIsRam = false → ∀ ro, (readChr s a ro).1 =
        s.cart.chr.read ((bank.toNat * 4096 + a.toNat % 4096) % s.cart.chrLen)) ∧
      (readChr s a true).2 = s ∧
      (readChr s a false).2 = { s with mapper := if wide then .latchB q else .latchA q, draws := drawn } ∧
      (s.cart.chrIsRam = false → drawn = s.draws) ∧
      q = { r with
        latch0 :=
          if a.toNat = 0x0FD8 ∨ wide = true ∧ 0x0FD8 ≤ a.toNat ∧ a.toNat ≤ 0x0FDF then .fd
          else if a.toNat = 0x0FE8 ∨ wide = true ∧ 0x0FE8 ≤ a.toNat ∧ a.toNat ≤ 0x0FEF then .fe
          else r.latch0
        latch1 :=
          if 0x1FD8 ≤ a.toNat ∧ a.toNat ≤ 0x1FDF then .fd
          else if 0x1FE8 ≤ a.toNat ∧ a.toNat ≤ 0x1FEF then .fe
          else r.latch1 }

/-- read_prg of the latch mappers (20_memory.md R86, R89); a bank number below 0 is taken modulo n (log entry 13). -/
def Obligations.LatchMappersSelectPrgBanks : Prop :=
  ∀ (s : State) (r : LatchRegs) (n : Nat) (a : Word), 1 ≤ n → 0x8000 ≤ a.toNat →
    (s.mapper = .latchA r → s.cart.prgLen = 8192 * n →
      readPrg s a = s.cart.prg.read (
        if a.toNat < 0xA000 then (r.prg.toNat * 8192 + (a.toNat - 0x8000)) % (8192 * n)
        else if a.toNat < 0xC000 then (4 * n - 3) % n * 8192 + (a.toNat - 0xA000)
        else if a.toNat < 0xE000 then (4 * n - 2) % n * 8192 + (a.toNat - 0xC000)
        else (n - 1) * 8192 + (a.toNat - 0xE000))) ∧
    (s.mapper = .latchB r → s.cart.prgLen = 16384 * n →
      readPrg s a = s.cart.prg.read (
        if a.toNat < 0xC000 then (r.prg.toNat * 16384 + (a.toNat - 0x8000)) % (16384 * n)
        else (n - 1) * 16384 + (a.toNat - 0xC000)))

/-- read_chr and mirroring (20_memory.md R72, R79, R80, R88), and uses_chr_ram, which the spec derives from the flag
of the loader (R69). The byte of a CHR RAM is open (R92); that a read of it changes the counter draws alone is the
choice of the model (log entries 6 and 14). -/
def Obligations.ChrBanksAndMirroring : Prop :=
  ∀ (s : State) (a : PpuAddr) (ro : Bool),
    usesChrRam s = s.cart.chrIsRam ∧
    (s.mapper = .direct ∨ (∃ r, s.mapper = .shiftRegister r) → ∃ drawn, (readChr s a ro).2 = { s with draws := drawn }) ∧
    (s.mapper = .direct → s.cart.chrIsRam = false →
      readChr s a ro = (s.cart.chr.read (a.toNat % s.cart.chrLen), s)) ∧
    (∀ r, s.mapper = .shiftRegister r →
      (s.cart.chrIsRam = false → readChr s a ro = (s.cart.chr.read ((
        if r.control.toNat < 16 then r.chr0.toNat / 2 * 8192 + a.toNat
        else if a.toNat < 4096 then r.chr0.toNat * 4096 + a.toNat
        else r.chr1.toNat * 4096 + (a.toNat - 4096)) % s.cart.chrLen), s)) ∧
      mirroring s = (if r.control.toNat % 4 = 0 then .singleLower else if r.control.toNat % 4 = 1 then .singleUpper
        else if r.control.toNat % 4 = 2 then .vertical else .horizontal)) ∧
    (∀ r, s.mapper = .latchA r ∨ s.mapper = .latchB r →
      mirroring s = if r.mirror.toNat = 0 then .vertical else .horizontal)

/-- NMI entry (60 R334) at step 1 (40 R151), before any IRQ (60 R338); that the pending inputs after it are those of
the next entry of tickInputs is the form log entry 5 gives the environment. -/
def Obligations.NmiIsTakenWhateverIIs : Prop :=
  ∀ s : State, s.nmiPending = true →
    ∃ t q, pollInterrupts s = t ∧ FramePushed s.pc q s t ∧
      (∀ f, getFlag f q = if f = .B then false else if f = .U then true else getFlag f s.p) ∧
      (∀ f, getFlag f t.p = if f = .I then true else getFlag f s.p) ∧
      t.pc = vectorTarget s 0xFFFA ∧ t.a = s.a ∧ t.x = s.x ∧ t.y = s.y ∧ t.status = s.status ∧ t.extra = s.extra ∧
      t.cart = s.cart ∧ t.devAnswers = s.devAnswers ∧ t.cycles = s.cycles + 2 ∧ t.events = .tick 2 :: s.events ∧
      (∀ len a, prgOffset t.mapper len a = prgOffset s.mapper len a) ∧
      (∀ i rest, s.tickInputs = i :: rest →
        t.nmiPending = i.raiseNmi ∧ t.irqPending = i.irqLevel ∧ t.tickInputs = rest)

/-- IRQ poll and entry (60 R336) at step 2 (40 R152); that the pending inputs after it are those of the next entry of
tickInputs is the form log entry 5 gives the environment. -/
def Obligations.IrqIsTakenOnlyWhenIIsClear : Prop :=
  ∀ s : State, s.nmiPending = false →
    (s.irqPending = false ∨ getFlag .I s.p = true → pollInterrupts s = s) ∧
    (s.irqPending = true → getFlag .I s.p = false →
      ∃ t, pollInterrupts s = t ∧ FramePushed s.pc s.p s t ∧
        (∀ f, getFlag f t.p = if f = .I ∨ f = .B then true else getFlag f s.p) ∧
        t.pc = vectorTarget s 0xFFFE ∧ t.a = s.a ∧ t.x = s.x ∧ t.y = s.y ∧ t.status = s.status ∧
        t.extra = s.extra ∧ t.cart = s.cart ∧ t.devAnswers = s.devAnswers ∧ t.cycles = s.cycles + 2 ∧
        t.events = .tick 2 :: s.events ∧ (∀ len a, prgOffset t.mapper len a = prgOffset s.mapper len a) ∧
        (∀ i rest, s.tickInputs = i :: rest →
          t.nmiPending = i.raiseNmi ∧ t.irqPending = i.irqLevel ∧ t.tickInputs = rest))

/-- The return undoes an entry (60 R340). -/
def Obligations.RtiUndoesAnEntry : Prop :=
  (∀ (e : Entry) (s : State), ∃ t, exec .rti (takeException e s) = .next t ∧ t.pc = e.returnTo ∧ t.sp = s.sp ∧ t.a = s.a ∧ t.x = s.x ∧
    t.y = s.y ∧
    ∀ f, getFlag f t.p = if f = .B then false else if f = .U then true else getFlag f e.pushedStatus) ∧
  (∀ (s : State), ∀ u ∈ [nmiEntry s, irqEntry s], ∃ t, exec .rti u = .next t ∧ t.pc = s.pc ∧ t.sp = s.sp ∧
    ∀ f, f ≠ .B → f ≠ .U → getFlag f t.p = getFlag f s.p) ∧
  (∀ s : State, ∃ u t, exec .brk s = .next u ∧ exec .rti u = .next t ∧ t.pc = s.pc + 1 ∧ t.sp = s.sp ∧
    ∀ f, f ≠ .B → f ≠ .U → getFlag f t.p = getFlag f s.p)

/-- What a tick can do (20_memory.md R60, R61); that the pattern reads of a stated tick come from tickInputs is the
form log entry 5 gives the environment. -/
def Obligations.TickKeepsTheCoreAndPrg : Prop :=
  ∀ (n : Nat) (s : State),
    (tick n s).cycles = s.cycles + n ∧ (tick n s).a = s.a ∧ (tick n s).x = s.x ∧ (tick n s).y = s.y ∧
    (tick n s).sp = s.sp ∧ (tick n s).p = s.p ∧ (tick n s).pc = s.pc ∧ (tick n s).status = s.status ∧
    (tick n s).extra = s.extra ∧ (tick n s).ram = s.ram ∧ (tick n s).cart = s.cart ∧
    (tick n s).devAnswers = s.devAnswers ∧ (tick n s).events = .tick n :: s.events ∧
    (s.nmiPending = true → (tick n s).nmiPending = true) ∧
    (∀ len a, prgOffset (tick n s).mapper len a = prgOffset s.mapper len a) ∧
    (s.mapper = .direct → (tick n s).mapper = .direct) ∧
    (∀ r, s.mapper = .shiftRegister r → (tick n s).mapper = .shiftRegister r) ∧
    (∀ r, s.mapper = .latchA r → ∃ l m, (tick n s).mapper = .latchA { r with latch0 := l, latch1 := m }) ∧
    (∀ r, s.mapper = .latchB r → ∃ l m, (tick n s).mapper = .latchB { r with latch0 := l, latch1 := m }) ∧
    (∀ i rest, s.tickInputs = i :: rest →
      (tick n s).mapper = (i.chrReads.foldl (fun t a => (readChr t a false).2) s).mapper)

/-- The round-trip law (42 R237), and that its literal reading is false. -/
def Obligations.AdcThenSbcGivesA : Prop :=
  ∀ (a b p q : Byte),
    (getFlag .C q = !getFlag .C p → (sbcCore (adcCore a b p).1 b q).1 = a) ∧
    (getFlag .C q = getFlag .C p → (sbcCore (adcCore a b p).1 b q).1 ≠ a)

/-- Decimal mode is absent (42 R238): the flag passes through and changes no result. -/
def Obligations.DecimalFlagIsIgnored : Prop :=
  ∀ (s : State) (b : Byte) (w : Word) (d : Bool),
    ∀ f ∈ adcForms b w ++ sbcForms b w ++ sbcUndocumentedForms b ++ isbForms b w ++ rraForms b w,
    ∃ t, exec f.i s = .next t ∧
      exec f.i { s with p := setFlag .D d s.p } = .next { t with p := setFlag .D d t.p }
end

