-- ==== Sys2Proof/Laws/Flags.lean ====
section
/-! SUPPORT. The flag computations, flag by flag. Each lemma is decided over the 256 values of P. -/

namespace Sys2Proof.Machine

/-- Writing a field of P leaves the others. -/
@[simp] theorem getFlag_setFlag (f g : Flag) (b : Bool) (p : Byte) :
    getFlag f (setFlag g b p) = if f = g then b else getFlag f p := by
  cases f <;> cases g <;> cases b <;> simp [getFlag, setFlag, Flag.index]

@[simp] theorem getFlag_pulledP (f : Flag) (t : Byte) :
    getFlag f (pulledP t) = if f = .B then false else if f = .U then true else getFlag f t := by
  cases f <;> simp [getFlag, Flag.index, pulledP]

@[simp] theorem getFlag_phpByte (f : Flag) (p : Byte) :
    getFlag f (phpByte p) = if f = .B then true else if f = .U then true else getFlag f p := by
  cases f <;> simp [getFlag, Flag.index, phpByte]

@[simp] theorem getFlag_nmiByte (f : Flag) (p : Byte) :
    getFlag f (nmiByte p) = if f = .B then false else if f = .U then true else getFlag f p := by
  cases f <;> simp [getFlag, Flag.index, nmiByte]

/-- SetNZ, flag by flag (40 R177). -/
@[simp] theorem getFlag_setNZ (f : Flag) (v p : Byte) :
    getFlag f (setNZ v p) = if f = .N then v.getLsbD 7 else if f = .Z then decide (v = 0) else getFlag f p := by
  simp [setNZ]

/-- A status byte is its eight fields. -/
theorem p_ext {p q : Byte} (h : ∀ f, getFlag f p = getFlag f q) : p = q := by
  apply BitVec.eq_of_getLsbD_eq
  intro i hi
  have hC := h .C; have hZ := h .Z; have hI := h .I; have hD := h .D
  have hB := h .B; have hU := h .U; have hV := h .V; have hN := h .N
  simp only [getFlag, Flag.index] at hC hZ hI hD hB hU hV hN
  interval_cases i <;> assumption

end Sys2Proof.Machine
end

