-- ==== Sys2Proof/Laws/Memory.lean ====
section
/-! SUPPORT. The laws of the byte store: a read after a write, and the canonical form every write keeps. -/

namespace Sys2Proof.Machine

@[simp] theorem Memory.read_nil (k : Nat) : Memory.read [] k = Memory.blank := rfl

theorem Memory.read_cons (c : Host.Cell) (m : Memory) (k : Nat) :
    Memory.read (c :: m) k = if c.1 = k then c.2 else Memory.read m k := rfl

theorem Memory.read_insert (m : Memory) (k j : Nat) (v : Byte) :
    (Memory.insert k v m).read j = if j = k then v else m.read j := by
  induction m with
  | nil =>
    by_cases h : j = k
    · simp [Memory.insert, Memory.read_cons, h]
    · simp [Memory.insert, Memory.read_cons, h, Ne.symm h]
  | cons c m ih =>
    simp only [Memory.insert]
    split
    · by_cases hj : c.1 = j
      · have hjk : j ≠ k := by omega
        simp [Memory.read_cons, hj, hjk]
      · simp [Memory.read_cons, hj, ih]
    · split
      · rename_i hk
        by_cases h : j = k
        · simp [Memory.read_cons, h]
        · simp [Memory.read_cons, h, hk, Ne.symm h]
      · by_cases h : j = k
        · simp [Memory.read_cons, h]
        · simp [Memory.read_cons, h, Ne.symm h]

theorem Memory.read_remove (m : Memory) (k j : Nat) :
    Memory.read (m.filter (fun c => decide (c.1 ≠ k))) j = if j = k then Memory.blank else m.read j := by
  induction m with
  | nil => simp
  | cons c m ih =>
    by_cases hc : c.1 = k
    · rw [List.filter_cons_of_neg (by simp [hc]), ih]
      by_cases h : j = k
      · simp [h]
      · simp [Memory.read_cons, h, hc, Ne.symm h]
    · rw [List.filter_cons_of_pos (by simp [hc]), Memory.read_cons, Memory.read_cons, ih]
      by_cases h : j = k
      · simp [h, hc]
      · simp [h]

/-- A read after a write: the byte written at its own address, every other byte as before. -/
theorem Memory.read_write (m : Memory) (k j : Nat) (v : Byte) :
    (m.write k v).read j = if j = k then v else m.read j := by
  unfold Memory.write
  split
  · rename_i h
    rw [Memory.read_remove, h]
  · exact Memory.read_insert m k j v

theorem Memory.mem_insert {m : Memory} {k : Nat} {v : Byte} {c : Host.Cell} (h : c ∈ Memory.insert k v m) :
    c = (k, v) ∨ c ∈ m := by
  induction m with
  | nil => simpa [Memory.insert] using h
  | cons d m ih =>
    simp only [Memory.insert] at h
    split at h
    · rcases List.mem_cons.1 h with rfl | h
      · simp
      · rcases ih h with h | h <;> simp [h]
    · split at h <;> simp at h ⊢ <;> tauto

theorem Memory.insert_sorted {m : Memory} {k : Nat} {v : Byte} (h : m.Pairwise (fun c d => c.1 < d.1)) :
    (Memory.insert k v m).Pairwise (fun c d => c.1 < d.1) := by
  induction m with
  | nil => simp [Memory.insert]
  | cons d m ih =>
    rw [List.pairwise_cons] at h
    simp only [Memory.insert]
    split
    · rw [List.pairwise_cons]
      refine ⟨fun c hc => ?_, ih h.2⟩
      rcases Memory.mem_insert hc with rfl | hc
      · assumption
      · exact h.1 c hc
    · split
      · rename_i hk
        exact List.pairwise_cons.2 ⟨fun c hc => hk ▸ h.1 c hc, h.2⟩
      · refine List.pairwise_cons.2 ⟨fun c hc => ?_, List.pairwise_cons.2 h⟩
        rcases List.mem_cons.1 hc with rfl | hc
        · show k < c.1; omega
        · have := h.1 c hc; show k < c.1; omega

/-- Every write inside the store keeps the canonical form. -/
theorem Memory.write_wf {size : Nat} {m : Memory} {k : Nat} {v : Byte} (hk : k < size) (h : Memory.wf size m) :
    Memory.wf size (m.write k v) := by
  unfold Memory.write
  split
  · exact ⟨h.1.filter _, fun c hc => h.2 c (List.mem_filter.1 hc).1⟩
  · rename_i hv
    refine ⟨Memory.insert_sorted h.1, fun c hc => ?_⟩
    rcases Memory.mem_insert hc with rfl | hc
    · exact ⟨hk, hv⟩
    · exact h.2 c hc

/-- The empty store is in canonical form at every size. -/
theorem Memory.wf_nil (size : Nat) : Memory.wf size [] := by simp [Memory.wf]

end Sys2Proof.Machine
end

