-- ==== Sys2Proof/Laws/State.lean ====
section
/-! SUPPORT. The state's small lemmas: what each operation leaves of each field. Those of the record updates hold by rfl;
those of the bus go through the one lemma that says what a read or a write can change. -/

namespace Sys2Proof.Machine

/-! ### Record updates -/

@[simp] theorem devWrite_a (dev : Device) (reg : Word) (v : Byte) (s : State) : (devWrite dev reg v s).a = s.a := rfl
@[simp] theorem devWrite_x (dev : Device) (reg : Word) (v : Byte) (s : State) : (devWrite dev reg v s).x = s.x := rfl
@[simp] theorem devWrite_y (dev : Device) (reg : Word) (v : Byte) (s : State) : (devWrite dev reg v s).y = s.y := rfl
@[simp] theorem devWrite_sp (dev : Device) (reg : Word) (v : Byte) (s : State) : (devWrite dev reg v s).sp = s.sp := rfl
@[simp] theorem devWrite_p (dev : Device) (reg : Word) (v : Byte) (s : State) : (devWrite dev reg v s).p = s.p := rfl
@[simp] theorem devWrite_pc (dev : Device) (reg : Word) (v : Byte) (s : State) : (devWrite dev reg v s).pc = s.pc := rfl
@[simp] theorem devWrite_status (dev : Device) (reg : Word) (v : Byte) (s : State) : (devWrite dev reg v s).status = s.status := rfl
@[simp] theorem devWrite_extra (dev : Device) (reg : Word) (v : Byte) (s : State) : (devWrite dev reg v s).extra = s.extra := rfl
@[simp] theorem devWrite_nmiPending (dev : Device) (reg : Word) (v : Byte) (s : State) : (devWrite dev reg v s).nmiPending = s.nmiPending := rfl
@[simp] theorem devWrite_irqPending (dev : Device) (reg : Word) (v : Byte) (s : State) : (devWrite dev reg v s).irqPending = s.irqPending := rfl
@[simp] theorem devWrite_ram (dev : Device) (reg : Word) (v : Byte) (s : State) : (devWrite dev reg v s).ram = s.ram := rfl
@[simp] theorem devWrite_cycles (dev : Device) (reg : Word) (v : Byte) (s : State) : (devWrite dev reg v s).cycles = s.cycles := rfl
@[simp] theorem devWrite_mapper (dev : Device) (reg : Word) (v : Byte) (s : State) : (devWrite dev reg v s).mapper = s.mapper := rfl
@[simp] theorem devWrite_cart (dev : Device) (reg : Word) (v : Byte) (s : State) : (devWrite dev reg v s).cart = s.cart := rfl
@[simp] theorem devWrite_devAnswers (dev : Device) (reg : Word) (v : Byte) (s : State) : (devWrite dev reg v s).devAnswers = s.devAnswers := rfl
@[simp] theorem devWrite_tickInputs (dev : Device) (reg : Word) (v : Byte) (s : State) : (devWrite dev reg v s).tickInputs = s.tickInputs := rfl
@[simp] theorem devWrite_draws (dev : Device) (reg : Word) (v : Byte) (s : State) : (devWrite dev reg v s).draws = s.draws := rfl
@[simp] theorem devWrite_events (dev : Device) (reg : Word) (v : Byte) (s : State) :
    (devWrite dev reg v s).events = .devWrite dev reg v :: s.events := rfl

@[simp] theorem advance_a (o : Operand) (s : State) : (advance o s).a = s.a := rfl
@[simp] theorem advance_x (o : Operand) (s : State) : (advance o s).x = s.x := rfl
@[simp] theorem advance_y (o : Operand) (s : State) : (advance o s).y = s.y := rfl
@[simp] theorem advance_sp (o : Operand) (s : State) : (advance o s).sp = s.sp := rfl
@[simp] theorem advance_p (o : Operand) (s : State) : (advance o s).p = s.p := rfl
@[simp] theorem advance_status (o : Operand) (s : State) : (advance o s).status = s.status := rfl
@[simp] theorem advance_extra (o : Operand) (s : State) : (advance o s).extra = s.extra := rfl
@[simp] theorem advance_nmiPending (o : Operand) (s : State) : (advance o s).nmiPending = s.nmiPending := rfl
@[simp] theorem advance_irqPending (o : Operand) (s : State) : (advance o s).irqPending = s.irqPending := rfl
@[simp] theorem advance_ram (o : Operand) (s : State) : (advance o s).ram = s.ram := rfl
@[simp] theorem advance_cycles (o : Operand) (s : State) : (advance o s).cycles = s.cycles := rfl
@[simp] theorem advance_mapper (o : Operand) (s : State) : (advance o s).mapper = s.mapper := rfl
@[simp] theorem advance_cart (o : Operand) (s : State) : (advance o s).cart = s.cart := rfl
@[simp] theorem advance_devAnswers (o : Operand) (s : State) : (advance o s).devAnswers = s.devAnswers := rfl
@[simp] theorem advance_tickInputs (o : Operand) (s : State) : (advance o s).tickInputs = s.tickInputs := rfl
@[simp] theorem advance_draws (o : Operand) (s : State) : (advance o s).draws = s.draws := rfl
@[simp] theorem advance_events (o : Operand) (s : State) : (advance o s).events = s.events := rfl
@[simp] theorem advance_pc (o : Operand) (s : State) : (advance o s).pc = s.pc + BitVec.ofNat 16 o.size := rfl

/-! ### The bus -/

/-- Everything a device read can change: the record of the environment. -/
theorem devRead_eq (dev : Device) (reg : Word) (s : State) :
    ∃ v answers draws, devRead dev reg s =
      (v, { s with devAnswers := answers, draws := draws, events := .devRead dev reg v :: s.events }) := by
  unfold devRead
  split
  · rename_i v rest _
    exact ⟨v, rest, s.draws, rfl⟩
  · rename_i h
    exact ⟨Config.devAnswer s.draws, s.devAnswers, s.draws + 1, by simp⟩

/-- Everything a bus read can change: the record of the environment. -/
theorem memRead_eq (a : Word) (s : State) :
    ∃ answers draws events, (memRead a s).2 = { s with devAnswers := answers, draws := draws, events := events } := by
  unfold memRead
  split
  · exact ⟨s.devAnswers, s.draws, s.events, rfl⟩
  · obtain ⟨v, an, dr, h⟩ := devRead_eq .ppu (ppuReg a) s
    exact ⟨an, dr, _, by rw [h]⟩
  · obtain ⟨v, an, dr, h⟩ := devRead_eq .io a s
    exact ⟨an, dr, _, by rw [h]⟩
  · exact ⟨s.devAnswers, s.draws, s.events, rfl⟩
  · exact ⟨s.devAnswers, s.draws, s.events, rfl⟩

@[simp] theorem memRead_a (a : Word) (s : State) : ((memRead a s).2).a = s.a := by
  obtain ⟨_, _, _, h⟩ := memRead_eq a s; rw [h]
@[simp] theorem memRead_x (a : Word) (s : State) : ((memRead a s).2).x = s.x := by
  obtain ⟨_, _, _, h⟩ := memRead_eq a s; rw [h]
@[simp] theorem memRead_y (a : Word) (s : State) : ((memRead a s).2).y = s.y := by
  obtain ⟨_, _, _, h⟩ := memRead_eq a s; rw [h]
@[simp] theorem memRead_sp (a : Word) (s : State) : ((memRead a s).2).sp = s.sp := by
  obtain ⟨_, _, _, h⟩ := memRead_eq a s; rw [h]
@[simp] theorem memRead_p (a : Word) (s : State) : ((memRead a s).2).p = s.p := by
  obtain ⟨_, _, _, h⟩ := memRead_eq a s; rw [h]
@[simp] theorem memRead_pc (a : Word) (s : State) : ((memRead a s).2).pc = s.pc := by
  obtain ⟨_, _, _, h⟩ := memRead_eq a s; rw [h]
@[simp] theorem memRead_status (a : Word) (s : State) : ((memRead a s).2).status = s.status := by
  obtain ⟨_, _, _, h⟩ := memRead_eq a s; rw [h]
@[simp] theorem memRead_extra (a : Word) (s : State) : ((memRead a s).2).extra = s.extra := by
  obtain ⟨_, _, _, h⟩ := memRead_eq a s; rw [h]
@[simp] theorem memRead_nmiPending (a : Word) (s : State) : ((memRead a s).2).nmiPending = s.nmiPending := by
  obtain ⟨_, _, _, h⟩ := memRead_eq a s; rw [h]
@[simp] theorem memRead_irqPending (a : Word) (s : State) : ((memRead a s).2).irqPending = s.irqPending := by
  obtain ⟨_, _, _, h⟩ := memRead_eq a s; rw [h]
@[simp] theorem memRead_ram (a : Word) (s : State) : ((memRead a s).2).ram = s.ram := by
  obtain ⟨_, _, _, h⟩ := memRead_eq a s; rw [h]
@[simp] theorem memRead_cycles (a : Word) (s : State) : ((memRead a s).2).cycles = s.cycles := by
  obtain ⟨_, _, _, h⟩ := memRead_eq a s; rw [h]
@[simp] theorem memRead_mapper (a : Word) (s : State) : ((memRead a s).2).mapper = s.mapper := by
  obtain ⟨_, _, _, h⟩ := memRead_eq a s; rw [h]
@[simp] theorem memRead_cart (a : Word) (s : State) : ((memRead a s).2).cart = s.cart := by
  obtain ⟨_, _, _, h⟩ := memRead_eq a s; rw [h]
@[simp] theorem memRead_tickInputs (a : Word) (s : State) : ((memRead a s).2).tickInputs = s.tickInputs := by
  obtain ⟨_, _, _, h⟩ := memRead_eq a s; rw [h]

@[simp] theorem memRead16_a (a : Word) (s : State) : ((memRead16 a s).2).a = s.a := by
  simp [memRead16]
@[simp] theorem memRead16_x (a : Word) (s : State) : ((memRead16 a s).2).x = s.x := by
  simp [memRead16]
@[simp] theorem memRead16_y (a : Word) (s : State) : ((memRead16 a s).2).y = s.y := by
  simp [memRead16]
@[simp] theorem memRead16_sp (a : Word) (s : State) : ((memRead16 a s).2).sp = s.sp := by
  simp [memRead16]
@[simp] theorem memRead16_p (a : Word) (s : State) : ((memRead16 a s).2).p = s.p := by
  simp [memRead16]
@[simp] theorem memRead16_pc (a : Word) (s : State) : ((memRead16 a s).2).pc = s.pc := by
  simp [memRead16]
@[simp] theorem memRead16_status (a : Word) (s : State) : ((memRead16 a s).2).status = s.status := by
  simp [memRead16]
@[simp] theorem memRead16_extra (a : Word) (s : State) : ((memRead16 a s).2).extra = s.extra := by
  simp [memRead16]
@[simp] theorem memRead16_nmiPending (a : Word) (s : State) : ((memRead16 a s).2).nmiPending = s.nmiPending := by
  simp [memRead16]
@[simp] theorem memRead16_irqPending (a : Word) (s : State) : ((memRead16 a s).2).irqPending = s.irqPending := by
  simp [memRead16]
@[simp] theorem memRead16_ram (a : Word) (s : State) : ((memRead16 a s).2).ram = s.ram := by
  simp [memRead16]
@[simp] theorem memRead16_cycles (a : Word) (s : State) : ((memRead16 a s).2).cycles = s.cycles := by
  simp [memRead16]
@[simp] theorem memRead16_mapper (a : Word) (s : State) : ((memRead16 a s).2).mapper = s.mapper := by
  simp [memRead16]
@[simp] theorem memRead16_cart (a : Word) (s : State) : ((memRead16 a s).2).cart = s.cart := by
  simp [memRead16]
@[simp] theorem memRead16_tickInputs (a : Word) (s : State) : ((memRead16 a s).2).tickInputs = s.tickInputs := by
  simp [memRead16]

/-- A read outside the device windows leaves the whole machine. -/
theorem memRead_quiet {a : Word} {s : State} (h1 : regionOf a ≠ .ppu) (h2 : regionOf a ≠ .io) : (memRead a s).2 = s := by
  unfold memRead
  split <;> simp_all

theorem memRead_of_ram {a : Word} {s : State} (h : regionOf a = .ram) : memRead a s = (s.ram.read (ramIndex a), s) := by
  simp [memRead, h]

theorem memRead_of_mapper {a : Word} {s : State} (h : regionOf a = .mapper) : memRead a s = (readPrg s a, s) := by
  simp [memRead, h]

/-- Everything a bus write can change: one RAM byte, the mapper's registers, the record of events. -/
theorem memWrite_eq (a : Word) (v : Byte) (s : State) :
    memWrite a v s =
      { s with
        ram := if regionOf a = .ram then s.ram.write (ramIndex a) v else s.ram
        mapper := if regionOf a = .mapper then mapperWrite s.mapper a v else s.mapper
        events :=
          match regionOf a with
          | .ppu => .devWrite .ppu (ppuReg a) v :: s.events
          | .io => .devWrite .io a v :: s.events
          | .mapper => portEvents s.mapper a v ++ s.events
          | .ram | .unmapped => s.events } := by
  unfold memWrite
  cases h : regionOf a <;> simp [devWrite]

@[simp] theorem memWrite_a (a : Word) (v : Byte) (s : State) : (memWrite a v s).a = s.a := by rw [memWrite_eq]
@[simp] theorem memWrite_x (a : Word) (v : Byte) (s : State) : (memWrite a v s).x = s.x := by rw [memWrite_eq]
@[simp] theorem memWrite_y (a : Word) (v : Byte) (s : State) : (memWrite a v s).y = s.y := by rw [memWrite_eq]
@[simp] theorem memWrite_sp (a : Word) (v : Byte) (s : State) : (memWrite a v s).sp = s.sp := by rw [memWrite_eq]
@[simp] theorem memWrite_p (a : Word) (v : Byte) (s : State) : (memWrite a v s).p = s.p := by rw [memWrite_eq]
@[simp] theorem memWrite_pc (a : Word) (v : Byte) (s : State) : (memWrite a v s).pc = s.pc := by rw [memWrite_eq]
@[simp] theorem memWrite_status (a : Word) (v : Byte) (s : State) : (memWrite a v s).status = s.status := by rw [memWrite_eq]
@[simp] theorem memWrite_extra (a : Word) (v : Byte) (s : State) : (memWrite a v s).extra = s.extra := by rw [memWrite_eq]
@[simp] theorem memWrite_nmiPending (a : Word) (v : Byte) (s : State) : (memWrite a v s).nmiPending = s.nmiPending := by rw [memWrite_eq]
@[simp] theorem memWrite_irqPending (a : Word) (v : Byte) (s : State) : (memWrite a v s).irqPending = s.irqPending := by rw [memWrite_eq]
@[simp] theorem memWrite_cycles (a : Word) (v : Byte) (s : State) : (memWrite a v s).cycles = s.cycles := by rw [memWrite_eq]
@[simp] theorem memWrite_cart (a : Word) (v : Byte) (s : State) : (memWrite a v s).cart = s.cart := by rw [memWrite_eq]
@[simp] theorem memWrite_devAnswers (a : Word) (v : Byte) (s : State) : (memWrite a v s).devAnswers = s.devAnswers := by rw [memWrite_eq]
@[simp] theorem memWrite_tickInputs (a : Word) (v : Byte) (s : State) : (memWrite a v s).tickInputs = s.tickInputs := by rw [memWrite_eq]
@[simp] theorem memWrite_draws (a : Word) (v : Byte) (s : State) : (memWrite a v s).draws = s.draws := by rw [memWrite_eq]

/-! ### The stack -/

/-- The stack page lies in RAM: the byte SP designates is RAM byte 0x100 + SP. -/
theorem regionOf_stack (sp : Byte) : regionOf (stackAddr sp) = .ram := by
  revert sp; decide

theorem ramIndex_stack (sp : Byte) : ramIndex (stackAddr sp) = 256 + sp.toNat := by
  revert sp; decide

/-- Push(v), all of it. -/
theorem push_eq (v : Byte) (s : State) :
    push v s = { s with ram := s.ram.write (256 + s.sp.toNat) v, sp := s.sp - 1 } := by
  simp [push, memWrite, regionOf_stack, ramIndex_stack]

/-- Pop(), all of it. -/
theorem pop_eq (s : State) :
    pop s = (s.ram.read (256 + (s.sp + 1).toNat), { s with sp := s.sp + 1 }) := by
  simp [pop, memRead, regionOf_stack, ramIndex_stack]

/-- Push16(w), all of it. -/
theorem push16_eq (w : Word) (s : State) :
    push16 w s =
      { s with
        ram := (s.ram.write (256 + s.sp.toNat) (hi w)).write (256 + (s.sp - 1).toNat) (lo w)
        sp := s.sp - 1 - 1 } := by
  simp [push16, push_eq]

/-- Pop16(), all of it. -/
theorem pop16_eq (s : State) :
    pop16 s =
      (wordOf (s.ram.read (256 + (s.sp + 1 + 1).toNat)) (s.ram.read (256 + (s.sp + 1).toNat)),
       { s with sp := s.sp + 1 + 1 }) := by
  simp [pop16, pop_eq]

/-! ### The tick -/

/-- Everything a tick can change: the counter, the pending flags, the mapper's latches, the record of the
environment. -/
theorem tick_eq (n : Nat) (s : State) :
    ∃ (i : TickInput) (inputs : List TickInput) (draws : Nat), tick n s =
      { s with
        cycles := s.cycles + n
        nmiPending := s.nmiPending || i.raiseNmi
        irqPending := i.irqLevel
        mapper := mapperAfterChr s.mapper i.chrReads
        tickInputs := inputs
        draws := draws
        events := .tick n :: s.events } := by
  unfold tick nextTickInput
  split
  · exact ⟨_, _, s.draws, rfl⟩
  · exact ⟨_, s.tickInputs, _, rfl⟩

@[simp] theorem tick_a (n : Nat) (s : State) : (tick n s).a = s.a := by
  obtain ⟨_, _, _, h⟩ := tick_eq n s; rw [h]
@[simp] theorem tick_x (n : Nat) (s : State) : (tick n s).x = s.x := by
  obtain ⟨_, _, _, h⟩ := tick_eq n s; rw [h]
@[simp] theorem tick_y (n : Nat) (s : State) : (tick n s).y = s.y := by
  obtain ⟨_, _, _, h⟩ := tick_eq n s; rw [h]
@[simp] theorem tick_sp (n : Nat) (s : State) : (tick n s).sp = s.sp := by
  obtain ⟨_, _, _, h⟩ := tick_eq n s; rw [h]
@[simp] theorem tick_p (n : Nat) (s : State) : (tick n s).p = s.p := by
  obtain ⟨_, _, _, h⟩ := tick_eq n s; rw [h]
@[simp] theorem tick_pc (n : Nat) (s : State) : (tick n s).pc = s.pc := by
  obtain ⟨_, _, _, h⟩ := tick_eq n s; rw [h]
@[simp] theorem tick_status (n : Nat) (s : State) : (tick n s).status = s.status := by
  obtain ⟨_, _, _, h⟩ := tick_eq n s; rw [h]
@[simp] theorem tick_extra (n : Nat) (s : State) : (tick n s).extra = s.extra := by
  obtain ⟨_, _, _, h⟩ := tick_eq n s; rw [h]
@[simp] theorem tick_ram (n : Nat) (s : State) : (tick n s).ram = s.ram := by
  obtain ⟨_, _, _, h⟩ := tick_eq n s; rw [h]
@[simp] theorem tick_cart (n : Nat) (s : State) : (tick n s).cart = s.cart := by
  obtain ⟨_, _, _, h⟩ := tick_eq n s; rw [h]
@[simp] theorem tick_devAnswers (n : Nat) (s : State) : (tick n s).devAnswers = s.devAnswers := by
  obtain ⟨_, _, _, h⟩ := tick_eq n s; rw [h]
@[simp] theorem tick_cycles (n : Nat) (s : State) : (tick n s).cycles = s.cycles + n := by
  obtain ⟨_, _, _, h⟩ := tick_eq n s; rw [h]
@[simp] theorem tick_events (n : Nat) (s : State) : (tick n s).events = .tick n :: s.events := by
  obtain ⟨_, _, _, h⟩ := tick_eq n s; rw [h]

/-- The PPU's pattern reads do not move a PRG bank. -/
theorem prgOffset_afterChr (m : Mapper) (reads : List PpuAddr) (len : Nat) (a : Word) :
    prgOffset (mapperAfterChr m reads) len a = prgOffset m len a := by
  have touch : ∀ (w : Nat) (r : LatchRegs) (b : PpuAddr), (touchLatch w r b).prg = r.prg := by
    intro w r b; unfold touchLatch; simp only []; split_ifs <;> rfl
  have fold : ∀ (w : Nat) (l : List PpuAddr) (r : LatchRegs), (l.foldl (touchLatch w) r).prg = r.prg := by
    intro w l
    induction l with
    | nil => intro r; rfl
    | cons b l ih => intro r; simp [ih, touch]
  cases m <;> simp [mapperAfterChr, prgOffset, latchAPrg, latchBPrg, fold]

end Sys2Proof.Machine
end

