-- ==== Sys2Proof/Laws/Operands.lean ====
section
/-! SUPPORT. What the resolver and the operand accesses can do, said once: on every mode that has an address they answer,
and they change nothing but extra and the record of the environment. -/

namespace Sys2Proof.Machine

/-- The operand forms that have an effective address (40 R160). -/
def Operand.addressable : Operand → Bool
  | .accumulator | .implied | .noneAddressing => false
  | .immediate _ | .zeroPage _ | .zeroPageX _ | .zeroPageY _ | .absolute _ | .absoluteX _ | .absoluteY _
  | .indirect _ | .indirectX _ | .indirectY _ | .relative _ => true

/-- A machine that differs from another in extra and the record of the environment only. -/
def Touched (s t : State) : Prop :=
  ∃ extra answers draws events,
    t = { s with extra := extra, devAnswers := answers, draws := draws, events := events }

theorem Touched.refl (s : State) : Touched s s := ⟨s.extra, s.devAnswers, s.draws, s.events, rfl⟩

theorem Touched.trans {s t u : State} (h : Touched s t) (k : Touched t u) : Touched s u := by
  obtain ⟨_, _, _, _, rfl⟩ := h
  obtain ⟨_, _, _, _, rfl⟩ := k
  exact ⟨_, _, _, _, rfl⟩

theorem touched_memRead (a : Word) (s : State) : Touched s (memRead a s).2 := by
  obtain ⟨an, dr, ev, h⟩ := memRead_eq a s
  exact ⟨s.extra, an, dr, ev, h⟩

/-- A read depends on neither P, pc nor the extra cycles, and leaves them. -/
theorem memRead_with (a : Word) (s : State) (p : Byte) (pc : Word) (extra : Nat) :
    memRead a { s with p := p, pc := pc, extra := extra } =
      ((memRead a s).1, { (memRead a s).2 with p := p, pc := pc, extra := extra }) := by
  unfold memRead
  split <;> first | rfl | (unfold devRead; dsimp only; split <;> simp_all)

theorem touched_indexed (w : Word) (i : Byte) (s : State) : Touched s (indexed w i s).2 := by
  unfold indexed
  simp only []
  split
  · exact ⟨s.extra + 1, s.devAnswers, s.draws, s.events, rfl⟩
  · exact Touched.refl s

theorem touched_zeroPagePointer (p : Byte) (s : State) : Touched s (zeroPagePointer p s).2 :=
  (touched_memRead _ _).trans (touched_memRead _ _)

theorem touched_pagePointer (p : Word) (s : State) : Touched s (pagePointer p s).2 :=
  (touched_memRead _ _).trans (touched_memRead _ _)

/-- The resolver answers on every form that has an address, and touches extra and the environment's record only. -/
theorem resolve_ok (o : Operand) (s : State) (h : o.addressable = true) :
    ∃ ea t, resolve o s = .ok (ea, t) ∧ Touched s t := by
  cases o with
  | immediate _ => exact ⟨_, _, rfl, Touched.refl s⟩
  | zeroPage _ => exact ⟨_, _, rfl, Touched.refl s⟩
  | zeroPageX _ => exact ⟨_, _, rfl, Touched.refl s⟩
  | zeroPageY _ => exact ⟨_, _, rfl, Touched.refl s⟩
  | absolute _ => exact ⟨_, _, rfl, Touched.refl s⟩
  | relative _ => exact ⟨_, _, rfl, Touched.refl s⟩
  | absoluteX _ => exact ⟨_, _, rfl, touched_indexed _ _ _⟩
  | absoluteY _ => exact ⟨_, _, rfl, touched_indexed _ _ _⟩
  | indirect _ => exact ⟨_, _, rfl, touched_pagePointer _ _⟩
  | indirectX _ => exact ⟨_, _, rfl, touched_zeroPagePointer _ _⟩
  | indirectY _ => exact ⟨_, _, rfl, (touched_zeroPagePointer _ _).trans (touched_indexed _ _ _)⟩
  | accumulator => cases h
  | implied => cases h
  | noneAddressing => cases h

/-- The operand read answers on every form that has an address. -/
theorem readOperand_ok (o : Operand) (s : State) (h : o.addressable = true) :
    ∃ m t, readOperand o s = .ok (m, t) ∧ Touched s t := by
  obtain ⟨ea, u, hr, hu⟩ := resolve_ok o s h
  have read : o.mode ≠ .immediate → readOperand o s = .ok (memRead ea u) := by
    intro hm
    cases o <;> first | exact absurd rfl hm | simp only [readOperand, hr]
  by_cases hm : o.mode = .immediate
  · cases o <;> first | (cases hm; done) | exact ⟨_, s, rfl, Touched.refl s⟩
  · exact ⟨_, _, read hm, hu.trans (touched_memRead _ _)⟩

/-- A rule run with an address, on a form that has one. -/
theorem withAddress_eq {o : Operand} {s : State} {ea : Word} {t : State} (h : resolve o s = .ok (ea, t))
    (k : Word → State → Out) : withAddress o s k = k ea t := by
  simp [withAddress, h]

/-- A rule run with an operand byte, on a form that has an address. -/
theorem withOperand_eq {o : Operand} {s : State} {m : Byte} {t : State} (h : readOperand o s = .ok (m, t))
    (k : Byte → State → Out) : withOperand o s k = k m t := by
  simp [withOperand, h]

/-- A read-modify-write, on a form that has an address: one read, then one write of the result. -/
theorem withModified_eq {o : Operand} {s : State} {ea : Word} {t : State} (h : resolve o s = .ok (ea, t))
    (f : Byte → Byte → Byte × Byte) (k : Byte → State → Out) :
    withModified o s f k =
      k (f (memRead ea t).1 t.p).1
        { memWrite ea (f (memRead ea t).1 t.p).1 (memRead ea t).2 with p := (f (memRead ea t).1 t.p).2 } := by
  simp [withModified, withAddress, h]

/-- A store, on a form that has an address. -/
theorem store_eq {o : Operand} {s : State} {ea : Word} {t : State} (h : resolve o s = .ok (ea, t)) (v : Byte) :
    store v o s = .next (advance o (memWrite ea v t)) := by
  simp [store, withAddress, h]

end Sys2Proof.Machine
end

