-- ==== Sys2Proof/Laws/Exec.lean ====
section
/-! SUPPORT. What executing an instruction can do, said once for all of them: it completes and leaves the status, the tick
counter, the interrupt inputs, the cartridge, the mapper's variant, bit 5 of P and the form of RAM as they were, or it is
one of the unsupported instructions. -/

namespace Sys2Proof.Machine

/-- Two mapper banks of one variant. -/
def SameVariant : Mapper → Mapper → Prop
  | .direct, .direct => True
  | .shiftRegister _, .shiftRegister _ => True
  | .latchA _, .latchA _ => True
  | .latchB _, .latchB _ => True
  | _, _ => False

theorem SameVariant.refl (m : Mapper) : SameVariant m m := by cases m <;> trivial

theorem SameVariant.trans {a b c : Mapper} (h : SameVariant a b) (k : SameVariant b c) : SameVariant a c := by
  cases a <;> cases b <;> cases c <;> trivial

/-- A write to the mapper's port keeps the variant. -/
theorem mapperWrite_variant (m : Mapper) (a : Word) (v : Byte) : SameVariant m (mapperWrite m a v) := by
  cases m <;> trivial

/-- The PPU's pattern reads keep the variant. -/
theorem mapperAfterChr_variant (m : Mapper) (l : List PpuAddr) : SameVariant m (mapperAfterChr m l) := by
  cases m <;> trivial

/-- What every instruction leaves: the status, the tick counter, the interrupt inputs, the cartridge, the coming tick
inputs, the mapper's variant, and the canonical form of RAM and bit 5 of P where they held. -/
structure Effect (s t : State) : Prop where
  status     : t.status = s.status
  cycles     : t.cycles = s.cycles
  nmiPending : t.nmiPending = s.nmiPending
  irqPending : t.irqPending = s.irqPending
  cart       : t.cart = s.cart
  tickInputs : t.tickInputs = s.tickInputs
  variant    : SameVariant s.mapper t.mapper
  ramForm    : Memory.wf 2048 s.ram → Memory.wf 2048 t.ram
  bitFive    : getFlag .U s.p = true → getFlag .U t.p = true

theorem Effect.refl (s : State) : Effect s s :=
  ⟨rfl, rfl, rfl, rfl, rfl, rfl, SameVariant.refl _, id, id⟩

theorem Effect.trans {s t u : State} (h : Effect s t) (k : Effect t u) : Effect s u :=
  ⟨k.status.trans h.status, k.cycles.trans h.cycles, k.nmiPending.trans h.nmiPending, k.irqPending.trans h.irqPending,
   k.cart.trans h.cart, k.tickInputs.trans h.tickInputs, h.variant.trans k.variant, fun w => k.ramForm (h.ramForm w),
   fun w => k.bitFive (h.bitFive w)⟩

/-- Registers, pc, extra and the record of the environment may change freely, and P where bit 5 stays set. -/
theorem Effect.registers {s : State} (a x y sp p : Byte) (pc : Word) (extra : Nat) (answers : List Byte) (draws : Nat)
    (events : List BusEvent) (h : getFlag .U s.p = true → getFlag .U p = true) :
    Effect s { s with a := a, x := x, y := y, sp := sp, p := p, pc := pc, extra := extra, devAnswers := answers,
                      draws := draws, events := events } :=
  ⟨rfl, rfl, rfl, rfl, rfl, rfl, SameVariant.refl _, id, h⟩

theorem Touched.effect {s t : State} (h : Touched s t) : Effect s t := by
  obtain ⟨e, an, dr, ev, rfl⟩ := h
  exact Effect.registers s.a s.x s.y s.sp s.p s.pc e an dr ev id

/-- The RAM byte an address names lies within the 2048 bytes. -/
theorem ramIndex_lt (a : Word) : ramIndex a < 2048 := by
  unfold ramIndex
  rw [BitVec.toNat_and]
  exact Nat.lt_of_le_of_lt Nat.and_le_right (by decide)

theorem memWrite_effect (a : Word) (v : Byte) (s : State) : Effect s (memWrite a v s) := by
  rw [memWrite_eq]
  refine ⟨rfl, rfl, rfl, rfl, rfl, rfl, ?_, fun h => ?_, id⟩
  · dsimp only
    split
    · exact mapperWrite_variant _ _ _
    · exact SameVariant.refl _
  · dsimp only
    split
    · exact Memory.write_wf (ramIndex_lt a) h
    · exact h

theorem push_effect (v : Byte) (s : State) : Effect s (push v s) :=
  (memWrite_effect _ v s).trans (Effect.registers _ _ _ _ _ _ _ _ _ _ id)

theorem push16_effect (w : Word) (s : State) : Effect s (push16 w s) := (push_effect _ s).trans (push_effect _ _)

theorem memRead_effect (a : Word) (s : State) : Effect s (memRead a s).2 := (touched_memRead a s).effect

theorem pop_effect (s : State) : Effect s (pop s).2 := by
  rw [pop_eq]; exact Effect.registers _ _ _ _ _ _ _ _ _ _ id

theorem pop16_effect (s : State) : Effect s (pop16 s).2 := (pop_effect s).trans (pop_effect _)

/-- An outcome that is a next state with an instruction's effect. -/
def Completes (o : Out) (s : State) : Prop := ∃ t, o = .next t ∧ Effect s t

theorem withOperand_completes (o : Operand) (s : State) (h : o.addressable = true) (k : Byte → State → Out)
    (hk : ∀ m t, Completes (k m t) t) : Completes (withOperand o s k) s := by
  obtain ⟨m, t, hr, ht⟩ := readOperand_ok o s h
  obtain ⟨u, hu, e⟩ := hk m t
  exact ⟨u, (withOperand_eq hr k).trans hu, ht.effect.trans e⟩

theorem withAddress_completes (o : Operand) (s : State) (h : o.addressable = true) (k : Word → State → Out)
    (hk : ∀ a t, Completes (k a t) t) : Completes (withAddress o s k) s := by
  obtain ⟨a, t, hr, ht⟩ := resolve_ok o s h
  obtain ⟨u, hu, e⟩ := hk a t
  exact ⟨u, (withAddress_eq hr k).trans hu, ht.effect.trans e⟩

/-- A core that leaves bit 5 of P. -/
def KeepsU (p q : Byte) : Prop := getFlag .U q = getFlag .U p

theorem withModified_completes (o : Operand) (s : State) (h : o.addressable = true) (f : Byte → Byte → Byte × Byte)
    (k : Byte → State → Out) (hf : ∀ m p, KeepsU p (f m p).2) (hk : ∀ r t, Completes (k r t) t) :
    Completes (withModified o s f k) s := by
  refine withAddress_completes o s h _ fun a t => ?_
  obtain ⟨u, hu, e⟩ := hk _ _
  refine ⟨u, hu, (((memRead_effect a t).trans (memWrite_effect a (f (memRead a t).1 (memRead a t).2.p).1 _)).trans ?_).trans e⟩
  refine Effect.registers _ _ _ _ _ _ _ _ _ _ fun w => ?_
  rw [hf, ← w]
  simp

theorem advance_completes (o : Operand) (s t : State) (h : Effect s t) : Completes (.next (advance o t)) s :=
  ⟨_, rfl, h.trans (Effect.registers _ _ _ _ _ _ _ _ _ _ id)⟩

theorem store_completes (v : Byte) (o : Operand) (s : State) (h : o.addressable = true) : Completes (store v o s) s :=
  withAddress_completes o s h _ fun a t => advance_completes o t _ (memWrite_effect a v t)

theorem setNZ_keepsU (v p : Byte) : KeepsU p (setNZ v p) := by simp [KeepsU]

theorem adcCore_keepsU (a m p : Byte) : KeepsU p (adcCore a m p).2 := by simp [KeepsU, adcCore]

theorem sbcCore_keepsU (a m p : Byte) : KeepsU p (sbcCore a m p).2 := adcCore_keepsU _ _ _

theorem andCore_keepsU (a m p : Byte) : KeepsU p (andCore a m p).2 := by simp [KeepsU, andCore]

theorem oraCore_keepsU (a m p : Byte) : KeepsU p (oraCore a m p).2 := by simp [KeepsU, oraCore]

theorem eorCore_keepsU (a m p : Byte) : KeepsU p (eorCore a m p).2 := by simp [KeepsU, eorCore]

theorem cmpCore_keepsU (r m p : Byte) : KeepsU p (cmpCore r m p) := by simp [KeepsU, cmpCore]

theorem bitFlags_keepsU (a m p : Byte) : KeepsU p (bitFlags a m p) := by simp [KeepsU, bitFlags]

theorem incCore_keepsU (v p : Byte) : KeepsU p (incCore v p).2 := by simp [KeepsU, incCore]

theorem decCore_keepsU (v p : Byte) : KeepsU p (decCore v p).2 := by simp [KeepsU, decCore]

theorem aslNZ_keepsU (v p : Byte) : KeepsU p (withNZ aslCore v p).2 := by simp [KeepsU, withNZ, aslCore]

theorem lsrNZ_keepsU (v p : Byte) : KeepsU p (withNZ lsrCore v p).2 := by simp [KeepsU, withNZ, lsrCore]

theorem rolNZ_keepsU (v p : Byte) : KeepsU p (withNZ rolCore v p).2 := by simp [KeepsU, withNZ, rolCore]

theorem rorNZ_keepsU (v p : Byte) : KeepsU p (withNZ rorCore v p).2 := by simp [KeepsU, withNZ, rorCore]

/-- A form that reads its operand and writes registers and P. -/
theorem reads_completes (o : Operand) (s : State) (h : o.addressable = true) (a x y p : Byte → State → Byte)
    (hp : ∀ m t, KeepsU t.p (p m t)) :
    Completes (withOperand o s fun m t =>
      .next (advance o { t with a := a m t, x := x m t, y := y m t, p := p m t })) s :=
  withOperand_completes o s h _ fun m t =>
    advance_completes o t _ (Effect.registers _ _ _ _ _ _ _ _ _ _ fun w => (hp m t).trans w)

/-- A read-modify-write form that then writes A and P. -/
theorem modifies_completes (o : Operand) (s : State) (h : o.addressable = true) (f : Byte → Byte → Byte × Byte)
    (a p : Byte → State → Byte) (hf : ∀ m q, KeepsU q (f m q).2) (hp : ∀ r t, KeepsU t.p (p r t)) :
    Completes (withModified o s f fun r t => .next (advance o { t with a := a r t, p := p r t })) s :=
  withModified_completes o s h f _ hf fun r t =>
    advance_completes o t _ (Effect.registers _ _ _ _ _ _ _ _ _ _ fun w => (hp r t).trans w)

/-- A form that touches no bus. -/
theorem internal_completes (o : Operand) (s : State) (a x y sp p : Byte) (hp : KeepsU s.p p) :
    Completes (.next (advance o { s with a := a, x := x, y := y, sp := sp, p := p })) s :=
  advance_completes o s _ (Effect.registers _ _ _ _ _ _ _ _ _ _ fun w => hp.trans w)

theorem loadA_completes (o : Operand) (s : State) (h : o.addressable = true) : Completes (loadA o s) s :=
  reads_completes o s h (fun m _ => m) (fun _ t => t.x) (fun _ t => t.y) _ fun _ _ => setNZ_keepsU _ _

theorem loadX_completes (o : Operand) (s : State) (h : o.addressable = true) : Completes (loadX o s) s :=
  reads_completes o s h (fun _ t => t.a) (fun m _ => m) (fun _ t => t.y) _ fun _ _ => setNZ_keepsU _ _

theorem loadY_completes (o : Operand) (s : State) (h : o.addressable = true) : Completes (loadY o s) s :=
  reads_completes o s h (fun _ t => t.a) (fun _ t => t.x) (fun m _ => m) _ fun _ _ => setNZ_keepsU _ _

theorem loadAX_completes (o : Operand) (s : State) (h : o.addressable = true) : Completes (loadAX o s) s :=
  reads_completes o s h (fun m _ => m) (fun m _ => m) (fun _ t => t.y) _ fun _ _ => setNZ_keepsU _ _

theorem nopRead_completes (o : Operand) (s : State) (h : o.addressable = true) : Completes (nopRead o s) s :=
  reads_completes o s h (fun _ t => t.a) (fun _ t => t.x) (fun _ t => t.y) (fun _ t => t.p) fun _ _ => rfl

theorem accumulate_completes (f : Byte → Byte → Byte → Byte × Byte) (hf : ∀ a m p, KeepsU p (f a m p).2) (o : Operand)
    (s : State) (h : o.addressable = true) : Completes (accumulate f o s) s :=
  reads_completes o s h (fun m t => (f t.a m t.p).1) (fun _ t => t.x) (fun _ t => t.y) _ fun _ _ => hf _ _ _

theorem compare_completes (r : State → Byte) (o : Operand) (s : State) (h : o.addressable = true) :
    Completes (compare r o s) s :=
  reads_completes o s h (fun _ t => t.a) (fun _ t => t.x) (fun _ t => t.y) _ fun _ _ => cmpCore_keepsU _ _ _

theorem testBits_completes (o : Operand) (s : State) (h : o.addressable = true) : Completes (testBits o s) s :=
  reads_completes o s h (fun _ t => t.a) (fun _ t => t.x) (fun _ t => t.y) _ fun _ _ => bitFlags_keepsU _ _ _

theorem modify_completes (f : Byte → Byte → Byte × Byte) (hf : ∀ m p, KeepsU p (f m p).2) (o : Operand) (s : State)
    (h : o.addressable = true) : Completes (modify f o s) s :=
  modifies_completes o s h f (fun _ t => t.a) (fun _ t => t.p) hf fun _ _ => rfl

theorem composite_completes (f : Byte → Byte → Byte × Byte) (g : Byte → Byte → Byte → Byte × Byte)
    (hf : ∀ m p, KeepsU p (f m p).2) (hg : ∀ a m p, KeepsU p (g a m p).2) (o : Operand) (s : State)
    (h : o.addressable = true) : Completes (composite f g o s) s :=
  modifies_completes o s h f _ _ hf fun _ _ => hg _ _ _

theorem decrementCompare_completes (o : Operand) (s : State) (h : o.addressable = true) :
    Completes (decrementCompare o s) s :=
  modifies_completes o s h decCore (fun _ t => t.a) _ decCore_keepsU fun _ _ => cmpCore_keepsU _ _ _

theorem addA_completes (o : Operand) (s : State) (h : o.addressable = true) : Completes (addA o s) s :=
  accumulate_completes adcCore adcCore_keepsU o s h

theorem subtractA_completes (o : Operand) (s : State) (h : o.addressable = true) : Completes (subtractA o s) s :=
  accumulate_completes sbcCore sbcCore_keepsU o s h

theorem andA_completes (o : Operand) (s : State) (h : o.addressable = true) : Completes (andA o s) s :=
  accumulate_completes andCore andCore_keepsU o s h

theorem orA_completes (o : Operand) (s : State) (h : o.addressable = true) : Completes (orA o s) s :=
  accumulate_completes oraCore oraCore_keepsU o s h

theorem xorA_completes (o : Operand) (s : State) (h : o.addressable = true) : Completes (xorA o s) s :=
  accumulate_completes eorCore eorCore_keepsU o s h

theorem compareA_completes (o : Operand) (s : State) (h : o.addressable = true) : Completes (compareA o s) s :=
  compare_completes State.a o s h

theorem compareX_completes (o : Operand) (s : State) (h : o.addressable = true) : Completes (compareX o s) s :=
  compare_completes State.x o s h

theorem compareY_completes (o : Operand) (s : State) (h : o.addressable = true) : Completes (compareY o s) s :=
  compare_completes State.y o s h

theorem storeA_completes (o : Operand) (s : State) (h : o.addressable = true) : Completes (storeA o s) s :=
  store_completes s.a o s h

theorem storeX_completes (o : Operand) (s : State) (h : o.addressable = true) : Completes (storeX o s) s :=
  store_completes s.x o s h

theorem storeY_completes (o : Operand) (s : State) (h : o.addressable = true) : Completes (storeY o s) s :=
  store_completes s.y o s h

theorem storeAX_completes (o : Operand) (s : State) (h : o.addressable = true) : Completes (storeAX o s) s :=
  store_completes (s.a &&& s.x) o s h

theorem increment_completes (o : Operand) (s : State) (h : o.addressable = true) : Completes (increment o s) s :=
  modify_completes incCore incCore_keepsU o s h

theorem decrement_completes (o : Operand) (s : State) (h : o.addressable = true) : Completes (decrement o s) s :=
  modify_completes decCore decCore_keepsU o s h

theorem incrementSubtract_completes (o : Operand) (s : State) (h : o.addressable = true) : Completes (incrementSubtract o s) s :=
  composite_completes incCore sbcCore incCore_keepsU sbcCore_keepsU o s h

theorem shiftLeftOr_completes (o : Operand) (s : State) (h : o.addressable = true) : Completes (shiftLeftOr o s) s :=
  composite_completes (withNZ aslCore) oraCore aslNZ_keepsU oraCore_keepsU o s h

theorem rotateLeftAnd_completes (o : Operand) (s : State) (h : o.addressable = true) : Completes (rotateLeftAnd o s) s :=
  composite_completes (withNZ rolCore) andCore rolNZ_keepsU andCore_keepsU o s h

theorem shiftRightXor_completes (o : Operand) (s : State) (h : o.addressable = true) : Completes (shiftRightXor o s) s :=
  composite_completes (withNZ lsrCore) eorCore lsrNZ_keepsU eorCore_keepsU o s h

theorem rotateRightAdd_completes (o : Operand) (s : State) (h : o.addressable = true) : Completes (rotateRightAdd o s) s :=
  composite_completes (withNZ rorCore) adcCore rorNZ_keepsU adcCore_keepsU o s h

theorem shiftOp_completes (f : Byte → Byte → Byte × Byte) (hf : ∀ m p, KeepsU p (withNZ f m p).2) (o : Operand)
    (s : State) (h : o.addressable = true) : Completes (shiftOp f o s) s := by
  unfold shiftOp
  split
  · exact internal_completes .accumulator s _ s.x s.y s.sp _ (hf _ _)
  · exact modify_completes (withNZ f) hf _ s h

theorem shiftLeft_completes (o : Operand) (s : State) (h : o.addressable = true) : Completes (shiftLeft o s) s :=
  shiftOp_completes aslCore aslNZ_keepsU o s h

theorem shiftRight_completes (o : Operand) (s : State) (h : o.addressable = true) : Completes (shiftRight o s) s :=
  shiftOp_completes lsrCore lsrNZ_keepsU o s h

theorem rotateLeft_completes (o : Operand) (s : State) (h : o.addressable = true) : Completes (rotateLeft o s) s :=
  shiftOp_completes rolCore rolNZ_keepsU o s h

theorem rotateRight_completes (o : Operand) (s : State) (h : o.addressable = true) : Completes (rotateRight o s) s :=
  shiftOp_completes rorCore rorNZ_keepsU o s h

theorem branch_completes (cond : State → Bool) (d : Byte) (s : State) : Completes (branch cond (.relative d) s) s := by
  refine withAddress_completes _ s rfl _ fun a t => ?_
  split
  · exact ⟨_, rfl, Effect.registers _ _ _ _ _ _ _ _ _ _ id⟩
  · exact advance_completes _ t t (Effect.refl t)

theorem jump_completes (o : Operand) (s : State) (h : o.addressable = true) : Completes (jump o s) s :=
  withAddress_completes o s h _ fun _ _ => ⟨_, rfl, Effect.registers _ _ _ _ _ _ _ _ _ _ id⟩

theorem pulledP_bitFive (t : Byte) : getFlag .U (pulledP t) = true := by simp

theorem returnFromException_effect (s : State) : Effect s (returnFromException s) := by
  simp only [returnFromException, pop_eq, pop16_eq]
  exact Effect.registers _ _ _ _ _ _ _ _ _ _ fun _ => pulledP_bitFive _

theorem writeFlag_completes (f : Flag) (b : Bool) (s : State) (h : f ≠ .U) : Completes (writeFlag f b s) s :=
  internal_completes .implied s s.a s.x s.y s.sp _ (by simp [KeepsU, Ne.symm h])

/-- What taking an exception leaves, where no tick falls inside. -/
theorem takeException_effect (e : Entry) (s : State) (h1 : e.ticksBefore = none) (h2 : e.ticksAfter = none) :
    Effect s (takeException e s) := by
  unfold takeException
  simp only [h1, h2, tickSome]
  refine ((push16_effect e.returnTo s).trans (push_effect e.pushedStatus _)).trans ?_
  generalize push e.pushedStatus (push16 e.returnTo s) = q
  refine Effect.trans (?_ : Effect q (memRead16 e.vector q).2) ?_
  · exact (memRead_effect _ _).trans (memRead_effect _ _)
  · refine Effect.registers _ _ _ _ _ _ _ _ _ _ fun w => ?_
    rw [memRead16_p] at w
    cases e.setsI <;> cases e.setsBreak <;> simp [w]

theorem brk_completes (s : State) : Completes (execBrk s) s :=
  ⟨_, rfl, takeException_effect _ s rfl rfl⟩

theorem jsr_completes (w : Word) (s : State) : Completes (execJsr w s) s :=
  withAddress_completes _ s rfl _ fun _ t =>
    ⟨_, rfl, (push16_effect (t.pc + 1) t).trans (Effect.registers _ _ _ _ _ _ _ _ _ _ id)⟩

theorem rts_completes (s : State) : Completes (execRts s) s :=
  ⟨_, rfl, (pop16_effect s).trans (Effect.registers _ _ _ _ _ _ _ _ _ _ id)⟩

theorem pla_completes (s : State) : Completes (execPla s) s :=
  advance_completes .implied s _ ((pop_effect s).trans
    (Effect.registers _ _ _ _ _ _ _ _ _ _ fun w => (setNZ_keepsU _ _).trans w))

theorem plp_completes (s : State) : Completes (execPlp s) s :=
  advance_completes .implied s _ ((pop_effect s).trans
    (Effect.registers _ _ _ _ _ _ _ _ _ _ fun _ => pulledP_bitFive _))

/-- An instruction completes with the effect common to all, or is the unsupported instruction of an opcode byte. -/
theorem exec_completes (i : Instr) (s : State) :
    Completes (exec i s) s ∨ ∃ op, exec i s = unsupported op s := by
  cases i with
  | brk => exact .inl (brk_completes s)
  | oraIndX v => exact .inl (orA_completes (.indirectX v) s rfl)
  | jam02 => exact .inr ⟨_, rfl⟩
  | sloIndX v => exact .inl (shiftLeftOr_completes (.indirectX v) s rfl)
  | nopZp04 v => exact .inl (nopRead_completes (.zeroPage v) s rfl)
  | oraZp v => exact .inl (orA_completes (.zeroPage v) s rfl)
  | aslZp v => exact .inl (shiftLeft_completes (.zeroPage v) s rfl)
  | sloZp v => exact .inl (shiftLeftOr_completes (.zeroPage v) s rfl)
  | php => exact .inl (advance_completes .implied s _ (push_effect _ s))
  | oraImm v => exact .inl (orA_completes (.immediate v) s rfl)
  | aslA => exact .inl (internal_completes .accumulator s _ s.x s.y s.sp _ (aslNZ_keepsU _ _))
  | ancImm0B _ => exact .inr ⟨_, rfl⟩
  | nopAbs v => exact .inl (nopRead_completes (.absolute v) s rfl)
  | oraAbs v => exact .inl (orA_completes (.absolute v) s rfl)
  | aslAbs v => exact .inl (shiftLeft_completes (.absolute v) s rfl)
  | sloAbs v => exact .inl (shiftLeftOr_completes (.absolute v) s rfl)
  | bpl v => exact .inl (branch_completes (fun t => !getFlag .N t.p) v s)
  | oraIndY v => exact .inl (orA_completes (.indirectY v) s rfl)
  | jam12 => exact .inr ⟨_, rfl⟩
  | sloIndY v => exact .inl (shiftLeftOr_completes (.indirectY v) s rfl)
  | nopZpX14 v => exact .inl (nopRead_completes (.zeroPageX v) s rfl)
  | oraZpX v => exact .inl (orA_completes (.zeroPageX v) s rfl)
  | aslZpX v => exact .inl (shiftLeft_completes (.zeroPageX v) s rfl)
  | sloZpX v => exact .inl (shiftLeftOr_completes (.zeroPageX v) s rfl)
  | clc => exact .inl (writeFlag_completes _ _ s (by decide))
  | oraAbsY v => exact .inl (orA_completes (.absoluteY v) s rfl)
  | nop1A => exact .inl (internal_completes .implied s s.a s.x s.y s.sp s.p rfl)
  | sloAbsY v => exact .inl (shiftLeftOr_completes (.absoluteY v) s rfl)
  | nopAbsX1C v => exact .inl (nopRead_completes (.absoluteX v) s rfl)
  | oraAbsX v => exact .inl (orA_completes (.absoluteX v) s rfl)
  | aslAbsX v => exact .inl (shiftLeft_completes (.absoluteX v) s rfl)
  | sloAbsX v => exact .inl (shiftLeftOr_completes (.absoluteX v) s rfl)
  | jsr _ => exact .inl (jsr_completes _ s)
  | andIndX v => exact .inl (andA_completes (.indirectX v) s rfl)
  | jam22 => exact .inr ⟨_, rfl⟩
  | rlaIndX v => exact .inl (rotateLeftAnd_completes (.indirectX v) s rfl)
  | bitZp v => exact .inl (testBits_completes (.zeroPage v) s rfl)
  | andZp v => exact .inl (andA_completes (.zeroPage v) s rfl)
  | rolZp v => exact .inl (rotateLeft_completes (.zeroPage v) s rfl)
  | rlaZp v => exact .inl (rotateLeftAnd_completes (.zeroPage v) s rfl)
  | plp => exact .inl (plp_completes s)
  | andImm v => exact .inl (andA_completes (.immediate v) s rfl)
  | rolA => exact .inl (internal_completes .accumulator s _ s.x s.y s.sp _ (rolNZ_keepsU _ _))
  | ancImm2B _ => exact .inr ⟨_, rfl⟩
  | bitAbs v => exact .inl (testBits_completes (.absolute v) s rfl)
  | andAbs v => exact .inl (andA_completes (.absolute v) s rfl)
  | rolAbs v => exact .inl (rotateLeft_completes (.absolute v) s rfl)
  | rlaAbs v => exact .inl (rotateLeftAnd_completes (.absolute v) s rfl)
  | bmi v => exact .inl (branch_completes (fun t => getFlag .N t.p) v s)
  | andIndY v => exact .inl (andA_completes (.indirectY v) s rfl)
  | jam32 => exact .inr ⟨_, rfl⟩
  | rlaIndY v => exact .inl (rotateLeftAnd_completes (.indirectY v) s rfl)
  | nopZpX34 v => exact .inl (nopRead_completes (.zeroPageX v) s rfl)
  | andZpX v => exact .inl (andA_completes (.zeroPageX v) s rfl)
  | rolZpX v => exact .inl (rotateLeft_completes (.zeroPageX v) s rfl)
  | rlaZpX v => exact .inl (rotateLeftAnd_completes (.zeroPageX v) s rfl)
  | sec => exact .inl (writeFlag_completes _ _ s (by decide))
  | andAbsY v => exact .inl (andA_completes (.absoluteY v) s rfl)
  | nop3A => exact .inl (internal_completes .implied s s.a s.x s.y s.sp s.p rfl)
  | rlaAbsY v => exact .inl (rotateLeftAnd_completes (.absoluteY v) s rfl)
  | nopAbsX3C v => exact .inl (nopRead_completes (.absoluteX v) s rfl)
  | andAbsX v => exact .inl (andA_completes (.absoluteX v) s rfl)
  | rolAbsX v => exact .inl (rotateLeft_completes (.absoluteX v) s rfl)
  | rlaAbsX v => exact .inl (rotateLeftAnd_completes (.absoluteX v) s rfl)
  | rti => exact .inl (⟨_, rfl, returnFromException_effect s⟩)
  | eorIndX v => exact .inl (xorA_completes (.indirectX v) s rfl)
  | jam42 => exact .inr ⟨_, rfl⟩
  | sreIndX v => exact .inl (shiftRightXor_completes (.indirectX v) s rfl)
  | nopZp44 v => exact .inl (nopRead_completes (.zeroPage v) s rfl)
  | eorZp v => exact .inl (xorA_completes (.zeroPage v) s rfl)
  | lsrZp v => exact .inl (shiftRight_completes (.zeroPage v) s rfl)
  | sreZp v => exact .inl (shiftRightXor_completes (.zeroPage v) s rfl)
  | pha => exact .inl (advance_completes .implied s _ (push_effect _ s))
  | eorImm v => exact .inl (xorA_completes (.immediate v) s rfl)
  | lsrA => exact .inl (internal_completes .accumulator s _ s.x s.y s.sp _ (lsrNZ_keepsU _ _))
  | asrImm _ => exact .inr ⟨_, rfl⟩
  | jmpAbs v => exact .inl (jump_completes (.absolute v) s rfl)
  | eorAbs v => exact .inl (xorA_completes (.absolute v) s rfl)
  | lsrAbs v => exact .inl (shiftRight_completes (.absolute v) s rfl)
  | sreAbs v => exact .inl (shiftRightXor_completes (.absolute v) s rfl)
  | bvc v => exact .inl (branch_completes (fun t => !getFlag .V t.p) v s)
  | eorIndY v => exact .inl (xorA_completes (.indirectY v) s rfl)
  | jam52 => exact .inr ⟨_, rfl⟩
  | sreIndY v => exact .inl (shiftRightXor_completes (.indirectY v) s rfl)
  | nopZpX54 v => exact .inl (nopRead_completes (.zeroPageX v) s rfl)
  | eorZpX v => exact .inl (xorA_completes (.zeroPageX v) s rfl)
  | lsrZpX v => exact .inl (shiftRight_completes (.zeroPageX v) s rfl)
  | sreZpX v => exact .inl (shiftRightXor_completes (.zeroPageX v) s rfl)
  | cli => exact .inl (writeFlag_completes _ _ s (by decide))
  | eorAbsY v => exact .inl (xorA_completes (.absoluteY v) s rfl)
  | nop5A => exact .inl (internal_completes .implied s s.a s.x s.y s.sp s.p rfl)
  | sreAbsY v => exact .inl (shiftRightXor_completes (.absoluteY v) s rfl)
  | nopAbsX5C v => exact .inl (nopRead_completes (.absoluteX v) s rfl)
  | eorAbsX v => exact .inl (xorA_completes (.absoluteX v) s rfl)
  | lsrAbsX v => exact .inl (shiftRight_completes (.absoluteX v) s rfl)
  | sreAbsX v => exact .inl (shiftRightXor_completes (.absoluteX v) s rfl)
  | rts => exact .inl (rts_completes s)
  | adcIndX v => exact .inl (addA_completes (.indirectX v) s rfl)
  | jam62 => exact .inr ⟨_, rfl⟩
  | rraIndX v => exact .inl (rotateRightAdd_completes (.indirectX v) s rfl)
  | nopZp64 v => exact .inl (nopRead_completes (.zeroPage v) s rfl)
  | adcZp v => exact .inl (addA_completes (.zeroPage v) s rfl)
  | rorZp v => exact .inl (rotateRight_completes (.zeroPage v) s rfl)
  | rraZp v => exact .inl (rotateRightAdd_completes (.zeroPage v) s rfl)
  | pla => exact .inl (pla_completes s)
  | adcImm v => exact .inl (addA_completes (.immediate v) s rfl)
  | rorA => exact .inl (internal_completes .accumulator s _ s.x s.y s.sp _ (rorNZ_keepsU _ _))
  | arrImm _ => exact .inr ⟨_, rfl⟩
  | jmpInd v => exact .inl (jump_completes (.indirect v) s rfl)
  | adcAbs v => exact .inl (addA_completes (.absolute v) s rfl)
  | rorAbs v => exact .inl (rotateRight_completes (.absolute v) s rfl)
  | rraAbs v => exact .inl (rotateRightAdd_completes (.absolute v) s rfl)
  | bvs v => exact .inl (branch_completes (fun t => getFlag .V t.p) v s)
  | adcIndY v => exact .inl (addA_completes (.indirectY v) s rfl)
  | jam72 => exact .inr ⟨_, rfl⟩
  | rraIndY v => exact .inl (rotateRightAdd_completes (.indirectY v) s rfl)
  | nopZpX74 v => exact .inl (nopRead_completes (.zeroPageX v) s rfl)
  | adcZpX v => exact .inl (addA_completes (.zeroPageX v) s rfl)
  | rorZpX v => exact .inl (rotateRight_completes (.zeroPageX v) s rfl)
  | rraZpX v => exact .inl (rotateRightAdd_completes (.zeroPageX v) s rfl)
  | sei => exact .inl (writeFlag_completes _ _ s (by decide))
  | adcAbsY v => exact .inl (addA_completes (.absoluteY v) s rfl)
  | nop7A => exact .inl (internal_completes .implied s s.a s.x s.y s.sp s.p rfl)
  | rraAbsY v => exact .inl (rotateRightAdd_completes (.absoluteY v) s rfl)
  | nopAbsX7C v => exact .inl (nopRead_completes (.absoluteX v) s rfl)
  | adcAbsX v => exact .inl (addA_completes (.absoluteX v) s rfl)
  | rorAbsX v => exact .inl (rotateRight_completes (.absoluteX v) s rfl)
  | rraAbsX v => exact .inl (rotateRightAdd_completes (.absoluteX v) s rfl)
  | nopImm80 v => exact .inl (nopRead_completes (.immediate v) s rfl)
  | staIndX v => exact .inl (storeA_completes (.indirectX v) s rfl)
  | nopImm82 v => exact .inl (nopRead_completes (.immediate v) s rfl)
  | saxIndX v => exact .inl (storeAX_completes (.indirectX v) s rfl)
  | styZp v => exact .inl (storeY_completes (.zeroPage v) s rfl)
  | staZp v => exact .inl (storeA_completes (.zeroPage v) s rfl)
  | stxZp v => exact .inl (storeX_completes (.zeroPage v) s rfl)
  | saxZp v => exact .inl (storeAX_completes (.zeroPage v) s rfl)
  | dey => exact .inl (internal_completes .implied s s.a s.x _ s.sp _ (decCore_keepsU s.y s.p))
  | nopImm89 v => exact .inl (nopRead_completes (.immediate v) s rfl)
  | txa => exact .inl (internal_completes .implied s s.x s.x s.y s.sp _ (setNZ_keepsU s.x s.p))
  | aneImm _ => exact .inr ⟨_, rfl⟩
  | styAbs v => exact .inl (storeY_completes (.absolute v) s rfl)
  | staAbs v => exact .inl (storeA_completes (.absolute v) s rfl)
  | stxAbs v => exact .inl (storeX_completes (.absolute v) s rfl)
  | saxAbs v => exact .inl (storeAX_completes (.absolute v) s rfl)
  | bcc v => exact .inl (branch_completes (fun t => !getFlag .C t.p) v s)
  | staIndY v => exact .inl (storeA_completes (.indirectY v) s rfl)
  | jam92 => exact .inr ⟨_, rfl⟩
  | shaIndY _ => exact .inr ⟨_, rfl⟩
  | styZpX v => exact .inl (storeY_completes (.zeroPageX v) s rfl)
  | staZpX v => exact .inl (storeA_completes (.zeroPageX v) s rfl)
  | stxZpY v => exact .inl (storeX_completes (.zeroPageY v) s rfl)
  | saxZpY v => exact .inl (storeAX_completes (.zeroPageY v) s rfl)
  | tya => exact .inl (internal_completes .implied s s.y s.x s.y s.sp _ (setNZ_keepsU s.y s.p))
  | staAbsY v => exact .inl (storeA_completes (.absoluteY v) s rfl)
  | txs => exact .inl (internal_completes .implied s s.a s.x s.y s.x s.p rfl)
  | shsAbsY _ => exact .inr ⟨_, rfl⟩
  | shyAbsX _ => exact .inr ⟨_, rfl⟩
  | staAbsX v => exact .inl (storeA_completes (.absoluteX v) s rfl)
  | shxAbsY _ => exact .inr ⟨_, rfl⟩
  | shaAbsY _ => exact .inr ⟨_, rfl⟩
  | ldyImm v => exact .inl (loadY_completes (.immediate v) s rfl)
  | ldaIndX v => exact .inl (loadA_completes (.indirectX v) s rfl)
  | ldxImm v => exact .inl (loadX_completes (.immediate v) s rfl)
  | laxIndX v => exact .inl (loadAX_completes (.indirectX v) s rfl)
  | ldyZp v => exact .inl (loadY_completes (.zeroPage v) s rfl)
  | ldaZp v => exact .inl (loadA_completes (.zeroPage v) s rfl)
  | ldxZp v => exact .inl (loadX_completes (.zeroPage v) s rfl)
  | laxZp v => exact .inl (loadAX_completes (.zeroPage v) s rfl)
  | tay => exact .inl (internal_completes .implied s s.a s.x s.a s.sp _ (setNZ_keepsU s.a s.p))
  | ldaImm v => exact .inl (loadA_completes (.immediate v) s rfl)
  | tax => exact .inl (internal_completes .implied s s.a s.a s.y s.sp _ (setNZ_keepsU s.a s.p))
  | lxaImm _ => exact .inr ⟨_, rfl⟩
  | ldyAbs v => exact .inl (loadY_completes (.absolute v) s rfl)
  | ldaAbs v => exact .inl (loadA_completes (.absolute v) s rfl)
  | ldxAbs v => exact .inl (loadX_completes (.absolute v) s rfl)
  | laxAbs v => exact .inl (loadAX_completes (.absolute v) s rfl)
  | bcs v => exact .inl (branch_completes (fun t => getFlag .C t.p) v s)
  | ldaIndY v => exact .inl (loadA_completes (.indirectY v) s rfl)
  | jamB2 => exact .inr ⟨_, rfl⟩
  | laxIndY v => exact .inl (loadAX_completes (.indirectY v) s rfl)
  | ldyZpX v => exact .inl (loadY_completes (.zeroPageX v) s rfl)
  | ldaZpX v => exact .inl (loadA_completes (.zeroPageX v) s rfl)
  | ldxZpY v => exact .inl (loadX_completes (.zeroPageY v) s rfl)
  | laxZpY v => exact .inl (loadAX_completes (.zeroPageY v) s rfl)
  | clv => exact .inl (writeFlag_completes _ _ s (by decide))
  | ldaAbsY v => exact .inl (loadA_completes (.absoluteY v) s rfl)
  | tsx => exact .inl (internal_completes .implied s s.a s.sp s.y s.sp _ (setNZ_keepsU s.sp s.p))
  | laeAbsY _ => exact .inr ⟨_, rfl⟩
  | ldyAbsX v => exact .inl (loadY_completes (.absoluteX v) s rfl)
  | ldaAbsX v => exact .inl (loadA_completes (.absoluteX v) s rfl)
  | ldxAbsY v => exact .inl (loadX_completes (.absoluteY v) s rfl)
  | laxAbsY v => exact .inl (loadAX_completes (.absoluteY v) s rfl)
  | cpyImm v => exact .inl (compareY_completes (.immediate v) s rfl)
  | cmpIndX v => exact .inl (compareA_completes (.indirectX v) s rfl)
  | nopImmC2 v => exact .inl (nopRead_completes (.immediate v) s rfl)
  | dcpIndX v => exact .inl (decrementCompare_completes (.indirectX v) s rfl)
  | cpyZp v => exact .inl (compareY_completes (.zeroPage v) s rfl)
  | cmpZp v => exact .inl (compareA_completes (.zeroPage v) s rfl)
  | decZp v => exact .inl (decrement_completes (.zeroPage v) s rfl)
  | dcpZp v => exact .inl (decrementCompare_completes (.zeroPage v) s rfl)
  | iny => exact .inl (internal_completes .implied s s.a s.x _ s.sp _ (incCore_keepsU s.y s.p))
  | cmpImm v => exact .inl (compareA_completes (.immediate v) s rfl)
  | dex => exact .inl (internal_completes .implied s s.a _ s.y s.sp _ (decCore_keepsU s.x s.p))
  | sbxImm _ => exact .inr ⟨_, rfl⟩
  | cpyAbs v => exact .inl (compareY_completes (.absolute v) s rfl)
  | cmpAbs v => exact .inl (compareA_completes (.absolute v) s rfl)
  | decAbs v => exact .inl (decrement_completes (.absolute v) s rfl)
  | dcpAbs v => exact .inl (decrementCompare_completes (.absolute v) s rfl)
  | bne v => exact .inl (branch_completes (fun t => !getFlag .Z t.p) v s)
  | cmpIndY v => exact .inl (compareA_completes (.indirectY v) s rfl)
  | jamD2 => exact .inr ⟨_, rfl⟩
  | dcpIndY v => exact .inl (decrementCompare_completes (.indirectY v) s rfl)
  | nopZpXD4 v => exact .inl (nopRead_completes (.zeroPageX v) s rfl)
  | cmpZpX v => exact .inl (compareA_completes (.zeroPageX v) s rfl)
  | decZpX v => exact .inl (decrement_completes (.zeroPageX v) s rfl)
  | dcpZpX v => exact .inl (decrementCompare_completes (.zeroPageX v) s rfl)
  | cld => exact .inl (writeFlag_completes _ _ s (by decide))
  | cmpAbsY v => exact .inl (compareA_completes (.absoluteY v) s rfl)
  | nopDA => exact .inl (internal_completes .implied s s.a s.x s.y s.sp s.p rfl)
  | dcpAbsY v => exact .inl (decrementCompare_completes (.absoluteY v) s rfl)
  | nopAbsXDC v => exact .inl (nopRead_completes (.absoluteX v) s rfl)
  | cmpAbsX v => exact .inl (compareA_completes (.absoluteX v) s rfl)
  | decAbsX v => exact .inl (decrement_completes (.absoluteX v) s rfl)
  | dcpAbsX v => exact .inl (decrementCompare_completes (.absoluteX v) s rfl)
  | cpxImm v => exact .inl (compareX_completes (.immediate v) s rfl)
  | sbcIndX v => exact .inl (subtractA_completes (.indirectX v) s rfl)
  | nopImmE2 v => exact .inl (nopRead_completes (.immediate v) s rfl)
  | isbIndX v => exact .inl (incrementSubtract_completes (.indirectX v) s rfl)
  | cpxZp v => exact .inl (compareX_completes (.zeroPage v) s rfl)
  | sbcZp v => exact .inl (subtractA_completes (.zeroPage v) s rfl)
  | incZp v => exact .inl (increment_completes (.zeroPage v) s rfl)
  | isbZp v => exact .inl (incrementSubtract_completes (.zeroPage v) s rfl)
  | inx => exact .inl (internal_completes .implied s s.a _ s.y s.sp _ (incCore_keepsU s.x s.p))
  | sbcImm v => exact .inl (subtractA_completes (.immediate v) s rfl)
  | nop => exact .inl (internal_completes .implied s s.a s.x s.y s.sp s.p rfl)
  | sbcImmEB v => exact .inl (subtractA_completes (.immediate v) s rfl)
  | cpxAbs v => exact .inl (compareX_completes (.absolute v) s rfl)
  | sbcAbs v => exact .inl (subtractA_completes (.absolute v) s rfl)
  | incAbs v => exact .inl (increment_completes (.absolute v) s rfl)
  | isbAbs v => exact .inl (incrementSubtract_completes (.absolute v) s rfl)
  | beq v => exact .inl (branch_completes (fun t => getFlag .Z t.p) v s)
  | sbcIndY v => exact .inl (subtractA_completes (.indirectY v) s rfl)
  | jamF2 => exact .inr ⟨_, rfl⟩
  | isbIndY v => exact .inl (incrementSubtract_completes (.indirectY v) s rfl)
  | nopZpXF4 v => exact .inl (nopRead_completes (.zeroPageX v) s rfl)
  | sbcZpX v => exact .inl (subtractA_completes (.zeroPageX v) s rfl)
  | incZpX v => exact .inl (increment_completes (.zeroPageX v) s rfl)
  | isbZpX v => exact .inl (incrementSubtract_completes (.zeroPageX v) s rfl)
  | sed => exact .inl (writeFlag_completes _ _ s (by decide))
  | sbcAbsY v => exact .inl (subtractA_completes (.absoluteY v) s rfl)
  | nopFA => exact .inl (internal_completes .implied s s.a s.x s.y s.sp s.p rfl)
  | isbAbsY v => exact .inl (incrementSubtract_completes (.absoluteY v) s rfl)
  | nopAbsXFC v => exact .inl (nopRead_completes (.absoluteX v) s rfl)
  | sbcAbsX v => exact .inl (subtractA_completes (.absoluteX v) s rfl)
  | incAbsX v => exact .inl (increment_completes (.absoluteX v) s rfl)
  | isbAbsX v => exact .inl (incrementSubtract_completes (.absoluteX v) s rfl)

end Sys2Proof.Machine
end

