-- ==== Sys2Proof/Laws/PerInstr.lean ====
section
/-! SUPPORT. A family of statements made per instruction: its encoding begins with an opcode byte that the table has, and holds
exactly the operand bytes of the row's format, the row's length of bytes in all (30_encoding.md R120 to R125). -/

/-- What the encoding of an instruction is made of: an opcode byte with a row, and the operand bytes its format has. -/
def Sys2Proof.Laws.Encoding.Statement (i : Sys2Proof.Instr) : Prop :=
  ∃ op d b, (Sys2Proof.encode i).head? = some op ∧ Sys2Proof.lookup op = some (d, b) ∧ d.code = op ∧
    (Sys2Proof.encode i).length = 1 + b.format.operandBytes ∧
    (Sys2Proof.encode i).length = d.length

namespace Sys2Proof.Laws.Encoding

open Sys2Proof

theorem brk : Statement .brk := ⟨_, _, _, rfl, rfl, rfl, rfl, rfl⟩
theorem oraIndX (v : Byte) : Statement (.oraIndX v) := ⟨_, _, _, rfl, rfl, rfl, rfl, rfl⟩
theorem jam02 : Statement .jam02 := ⟨_, _, _, rfl, rfl, rfl, rfl, rfl⟩
theorem sloIndX (v : Byte) : Statement (.sloIndX v) := ⟨_, _, _, rfl, rfl, rfl, rfl, rfl⟩
theorem nopZp04 (v : Byte) : Statement (.nopZp04 v) := ⟨_, _, _, rfl, rfl, rfl, rfl, rfl⟩
theorem oraZp (v : Byte) : Statement (.oraZp v) := ⟨_, _, _, rfl, rfl, rfl, rfl, rfl⟩
theorem aslZp (v : Byte) : Statement (.aslZp v) := ⟨_, _, _, rfl, rfl, rfl, rfl, rfl⟩
theorem sloZp (v : Byte) : Statement (.sloZp v) := ⟨_, _, _, rfl, rfl, rfl, rfl, rfl⟩
theorem php : Statement .php := ⟨_, _, _, rfl, rfl, rfl, rfl, rfl⟩
theorem oraImm (v : Byte) : Statement (.oraImm v) := ⟨_, _, _, rfl, rfl, rfl, rfl, rfl⟩
theorem aslA : Statement .aslA := ⟨_, _, _, rfl, rfl, rfl, rfl, rfl⟩
theorem ancImm0B (v : Byte) : Statement (.ancImm0B v) := ⟨_, _, _, rfl, rfl, rfl, rfl, rfl⟩
theorem nopAbs (w : Word) : Statement (.nopAbs w) := ⟨_, _, _, rfl, rfl, rfl, rfl, rfl⟩
theorem oraAbs (w : Word) : Statement (.oraAbs w) := ⟨_, _, _, rfl, rfl, rfl, rfl, rfl⟩
theorem aslAbs (w : Word) : Statement (.aslAbs w) := ⟨_, _, _, rfl, rfl, rfl, rfl, rfl⟩
theorem sloAbs (w : Word) : Statement (.sloAbs w) := ⟨_, _, _, rfl, rfl, rfl, rfl, rfl⟩
theorem bpl (v : Byte) : Statement (.bpl v) := ⟨_, _, _, rfl, rfl, rfl, rfl, rfl⟩
theorem oraIndY (v : Byte) : Statement (.oraIndY v) := ⟨_, _, _, rfl, rfl, rfl, rfl, rfl⟩
theorem jam12 : Statement .jam12 := ⟨_, _, _, rfl, rfl, rfl, rfl, rfl⟩
theorem sloIndY (v : Byte) : Statement (.sloIndY v) := ⟨_, _, _, rfl, rfl, rfl, rfl, rfl⟩
theorem nopZpX14 (v : Byte) : Statement (.nopZpX14 v) := ⟨_, _, _, rfl, rfl, rfl, rfl, rfl⟩
theorem oraZpX (v : Byte) : Statement (.oraZpX v) := ⟨_, _, _, rfl, rfl, rfl, rfl, rfl⟩
theorem aslZpX (v : Byte) : Statement (.aslZpX v) := ⟨_, _, _, rfl, rfl, rfl, rfl, rfl⟩
theorem sloZpX (v : Byte) : Statement (.sloZpX v) := ⟨_, _, _, rfl, rfl, rfl, rfl, rfl⟩
theorem clc : Statement .clc := ⟨_, _, _, rfl, rfl, rfl, rfl, rfl⟩
theorem oraAbsY (w : Word) : Statement (.oraAbsY w) := ⟨_, _, _, rfl, rfl, rfl, rfl, rfl⟩
theorem nop1A : Statement .nop1A := ⟨_, _, _, rfl, rfl, rfl, rfl, rfl⟩
theorem sloAbsY (w : Word) : Statement (.sloAbsY w) := ⟨_, _, _, rfl, rfl, rfl, rfl, rfl⟩
theorem nopAbsX1C (w : Word) : Statement (.nopAbsX1C w) := ⟨_, _, _, rfl, rfl, rfl, rfl, rfl⟩
theorem oraAbsX (w : Word) : Statement (.oraAbsX w) := ⟨_, _, _, rfl, rfl, rfl, rfl, rfl⟩
theorem aslAbsX (w : Word) : Statement (.aslAbsX w) := ⟨_, _, _, rfl, rfl, rfl, rfl, rfl⟩
theorem sloAbsX (w : Word) : Statement (.sloAbsX w) := ⟨_, _, _, rfl, rfl, rfl, rfl, rfl⟩
theorem jsr (w : Word) : Statement (.jsr w) := ⟨_, _, _, rfl, rfl, rfl, rfl, rfl⟩
theorem andIndX (v : Byte) : Statement (.andIndX v) := ⟨_, _, _, rfl, rfl, rfl, rfl, rfl⟩
theorem jam22 : Statement .jam22 := ⟨_, _, _, rfl, rfl, rfl, rfl, rfl⟩
theorem rlaIndX (v : Byte) : Statement (.rlaIndX v) := ⟨_, _, _, rfl, rfl, rfl, rfl, rfl⟩
theorem bitZp (v : Byte) : Statement (.bitZp v) := ⟨_, _, _, rfl, rfl, rfl, rfl, rfl⟩
theorem andZp (v : Byte) : Statement (.andZp v) := ⟨_, _, _, rfl, rfl, rfl, rfl, rfl⟩
theorem rolZp (v : Byte) : Statement (.rolZp v) := ⟨_, _, _, rfl, rfl, rfl, rfl, rfl⟩
theorem rlaZp (v : Byte) : Statement (.rlaZp v) := ⟨_, _, _, rfl, rfl, rfl, rfl, rfl⟩
theorem plp : Statement .plp := ⟨_, _, _, rfl, rfl, rfl, rfl, rfl⟩
theorem andImm (v : Byte) : Statement (.andImm v) := ⟨_, _, _, rfl, rfl, rfl, rfl, rfl⟩
theorem rolA : Statement .rolA := ⟨_, _, _, rfl, rfl, rfl, rfl, rfl⟩
theorem ancImm2B (v : Byte) : Statement (.ancImm2B v) := ⟨_, _, _, rfl, rfl, rfl, rfl, rfl⟩
theorem bitAbs (w : Word) : Statement (.bitAbs w) := ⟨_, _, _, rfl, rfl, rfl, rfl, rfl⟩
theorem andAbs (w : Word) : Statement (.andAbs w) := ⟨_, _, _, rfl, rfl, rfl, rfl, rfl⟩
theorem rolAbs (w : Word) : Statement (.rolAbs w) := ⟨_, _, _, rfl, rfl, rfl, rfl, rfl⟩
theorem rlaAbs (w : Word) : Statement (.rlaAbs w) := ⟨_, _, _, rfl, rfl, rfl, rfl, rfl⟩
theorem bmi (v : Byte) : Statement (.bmi v) := ⟨_, _, _, rfl, rfl, rfl, rfl, rfl⟩
theorem andIndY (v : Byte) : Statement (.andIndY v) := ⟨_, _, _, rfl, rfl, rfl, rfl, rfl⟩
theorem jam32 : Statement .jam32 := ⟨_, _, _, rfl, rfl, rfl, rfl, rfl⟩
theorem rlaIndY (v : Byte) : Statement (.rlaIndY v) := ⟨_, _, _, rfl, rfl, rfl, rfl, rfl⟩
theorem nopZpX34 (v : Byte) : Statement (.nopZpX34 v) := ⟨_, _, _, rfl, rfl, rfl, rfl, rfl⟩
theorem andZpX (v : Byte) : Statement (.andZpX v) := ⟨_, _, _, rfl, rfl, rfl, rfl, rfl⟩
theorem rolZpX (v : Byte) : Statement (.rolZpX v) := ⟨_, _, _, rfl, rfl, rfl, rfl, rfl⟩
theorem rlaZpX (v : Byte) : Statement (.rlaZpX v) := ⟨_, _, _, rfl, rfl, rfl, rfl, rfl⟩
theorem sec : Statement .sec := ⟨_, _, _, rfl, rfl, rfl, rfl, rfl⟩
theorem andAbsY (w : Word) : Statement (.andAbsY w) := ⟨_, _, _, rfl, rfl, rfl, rfl, rfl⟩
theorem nop3A : Statement .nop3A := ⟨_, _, _, rfl, rfl, rfl, rfl, rfl⟩
theorem rlaAbsY (w : Word) : Statement (.rlaAbsY w) := ⟨_, _, _, rfl, rfl, rfl, rfl, rfl⟩
theorem nopAbsX3C (w : Word) : Statement (.nopAbsX3C w) := ⟨_, _, _, rfl, rfl, rfl, rfl, rfl⟩
theorem andAbsX (w : Word) : Statement (.andAbsX w) := ⟨_, _, _, rfl, rfl, rfl, rfl, rfl⟩
theorem rolAbsX (w : Word) : Statement (.rolAbsX w) := ⟨_, _, _, rfl, rfl, rfl, rfl, rfl⟩
theorem rlaAbsX (w : Word) : Statement (.rlaAbsX w) := ⟨_, _, _, rfl, rfl, rfl, rfl, rfl⟩
theorem rti : Statement .rti := ⟨_, _, _, rfl, rfl, rfl, rfl, rfl⟩
theorem eorIndX (v : Byte) : Statement (.eorIndX v) := ⟨_, _, _, rfl, rfl, rfl, rfl, rfl⟩
theorem jam42 : Statement .jam42 := ⟨_, _, _, rfl, rfl, rfl, rfl, rfl⟩
theorem sreIndX (v : Byte) : Statement (.sreIndX v) := ⟨_, _, _, rfl, rfl, rfl, rfl, rfl⟩
theorem nopZp44 (v : Byte) : Statement (.nopZp44 v) := ⟨_, _, _, rfl, rfl, rfl, rfl, rfl⟩
theorem eorZp (v : Byte) : Statement (.eorZp v) := ⟨_, _, _, rfl, rfl, rfl, rfl, rfl⟩
theorem lsrZp (v : Byte) : Statement (.lsrZp v) := ⟨_, _, _, rfl, rfl, rfl, rfl, rfl⟩
theorem sreZp (v : Byte) : Statement (.sreZp v) := ⟨_, _, _, rfl, rfl, rfl, rfl, rfl⟩
theorem pha : Statement .pha := ⟨_, _, _, rfl, rfl, rfl, rfl, rfl⟩
theorem eorImm (v : Byte) : Statement (.eorImm v) := ⟨_, _, _, rfl, rfl, rfl, rfl, rfl⟩
theorem lsrA : Statement .lsrA := ⟨_, _, _, rfl, rfl, rfl, rfl, rfl⟩
theorem asrImm (v : Byte) : Statement (.asrImm v) := ⟨_, _, _, rfl, rfl, rfl, rfl, rfl⟩
theorem jmpAbs (w : Word) : Statement (.jmpAbs w) := ⟨_, _, _, rfl, rfl, rfl, rfl, rfl⟩
theorem eorAbs (w : Word) : Statement (.eorAbs w) := ⟨_, _, _, rfl, rfl, rfl, rfl, rfl⟩
theorem lsrAbs (w : Word) : Statement (.lsrAbs w) := ⟨_, _, _, rfl, rfl, rfl, rfl, rfl⟩
theorem sreAbs (w : Word) : Statement (.sreAbs w) := ⟨_, _, _, rfl, rfl, rfl, rfl, rfl⟩
theorem bvc (v : Byte) : Statement (.bvc v) := ⟨_, _, _, rfl, rfl, rfl, rfl, rfl⟩
theorem eorIndY (v : Byte) : Statement (.eorIndY v) := ⟨_, _, _, rfl, rfl, rfl, rfl, rfl⟩
theorem jam52 : Statement .jam52 := ⟨_, _, _, rfl, rfl, rfl, rfl, rfl⟩
theorem sreIndY (v : Byte) : Statement (.sreIndY v) := ⟨_, _, _, rfl, rfl, rfl, rfl, rfl⟩
theorem nopZpX54 (v : Byte) : Statement (.nopZpX54 v) := ⟨_, _, _, rfl, rfl, rfl, rfl, rfl⟩
theorem eorZpX (v : Byte) : Statement (.eorZpX v) := ⟨_, _, _, rfl, rfl, rfl, rfl, rfl⟩
theorem lsrZpX (v : Byte) : Statement (.lsrZpX v) := ⟨_, _, _, rfl, rfl, rfl, rfl, rfl⟩
theorem sreZpX (v : Byte) : Statement (.sreZpX v) := ⟨_, _, _, rfl, rfl, rfl, rfl, rfl⟩
theorem cli : Statement .cli := ⟨_, _, _, rfl, rfl, rfl, rfl, rfl⟩
theorem eorAbsY (w : Word) : Statement (.eorAbsY w) := ⟨_, _, _, rfl, rfl, rfl, rfl, rfl⟩
theorem nop5A : Statement .nop5A := ⟨_, _, _, rfl, rfl, rfl, rfl, rfl⟩
theorem sreAbsY (w : Word) : Statement (.sreAbsY w) := ⟨_, _, _, rfl, rfl, rfl, rfl, rfl⟩
theorem nopAbsX5C (w : Word) : Statement (.nopAbsX5C w) := ⟨_, _, _, rfl, rfl, rfl, rfl, rfl⟩
theorem eorAbsX (w : Word) : Statement (.eorAbsX w) := ⟨_, _, _, rfl, rfl, rfl, rfl, rfl⟩
theorem lsrAbsX (w : Word) : Statement (.lsrAbsX w) := ⟨_, _, _, rfl, rfl, rfl, rfl, rfl⟩
theorem sreAbsX (w : Word) : Statement (.sreAbsX w) := ⟨_, _, _, rfl, rfl, rfl, rfl, rfl⟩
theorem rts : Statement .rts := ⟨_, _, _, rfl, rfl, rfl, rfl, rfl⟩
theorem adcIndX (v : Byte) : Statement (.adcIndX v) := ⟨_, _, _, rfl, rfl, rfl, rfl, rfl⟩
theorem jam62 : Statement .jam62 := ⟨_, _, _, rfl, rfl, rfl, rfl, rfl⟩
theorem rraIndX (v : Byte) : Statement (.rraIndX v) := ⟨_, _, _, rfl, rfl, rfl, rfl, rfl⟩
theorem nopZp64 (v : Byte) : Statement (.nopZp64 v) := ⟨_, _, _, rfl, rfl, rfl, rfl, rfl⟩
theorem adcZp (v : Byte) : Statement (.adcZp v) := ⟨_, _, _, rfl, rfl, rfl, rfl, rfl⟩
theorem rorZp (v : Byte) : Statement (.rorZp v) := ⟨_, _, _, rfl, rfl, rfl, rfl, rfl⟩
theorem rraZp (v : Byte) : Statement (.rraZp v) := ⟨_, _, _, rfl, rfl, rfl, rfl, rfl⟩
theorem pla : Statement .pla := ⟨_, _, _, rfl, rfl, rfl, rfl, rfl⟩
theorem adcImm (v : Byte) : Statement (.adcImm v) := ⟨_, _, _, rfl, rfl, rfl, rfl, rfl⟩
theorem rorA : Statement .rorA := ⟨_, _, _, rfl, rfl, rfl, rfl, rfl⟩
theorem arrImm (v : Byte) : Statement (.arrImm v) := ⟨_, _, _, rfl, rfl, rfl, rfl, rfl⟩
theorem jmpInd (w : Word) : Statement (.jmpInd w) := ⟨_, _, _, rfl, rfl, rfl, rfl, rfl⟩
theorem adcAbs (w : Word) : Statement (.adcAbs w) := ⟨_, _, _, rfl, rfl, rfl, rfl, rfl⟩
theorem rorAbs (w : Word) : Statement (.rorAbs w) := ⟨_, _, _, rfl, rfl, rfl, rfl, rfl⟩
theorem rraAbs (w : Word) : Statement (.rraAbs w) := ⟨_, _, _, rfl, rfl, rfl, rfl, rfl⟩
theorem bvs (v : Byte) : Statement (.bvs v) := ⟨_, _, _, rfl, rfl, rfl, rfl, rfl⟩
theorem adcIndY (v : Byte) : Statement (.adcIndY v) := ⟨_, _, _, rfl, rfl, rfl, rfl, rfl⟩
theorem jam72 : Statement .jam72 := ⟨_, _, _, rfl, rfl, rfl, rfl, rfl⟩
theorem rraIndY (v : Byte) : Statement (.rraIndY v) := ⟨_, _, _, rfl, rfl, rfl, rfl, rfl⟩
theorem nopZpX74 (v : Byte) : Statement (.nopZpX74 v) := ⟨_, _, _, rfl, rfl, rfl, rfl, rfl⟩
theorem adcZpX (v : Byte) : Statement (.adcZpX v) := ⟨_, _, _, rfl, rfl, rfl, rfl, rfl⟩
theorem rorZpX (v : Byte) : Statement (.rorZpX v) := ⟨_, _, _, rfl, rfl, rfl, rfl, rfl⟩
theorem rraZpX (v : Byte) : Statement (.rraZpX v) := ⟨_, _, _, rfl, rfl, rfl, rfl, rfl⟩
theorem sei : Statement .sei := ⟨_, _, _, rfl, rfl, rfl, rfl, rfl⟩
theorem adcAbsY (w : Word) : Statement (.adcAbsY w) := ⟨_, _, _, rfl, rfl, rfl, rfl, rfl⟩
theorem nop7A : Statement .nop7A := ⟨_, _, _, rfl, rfl, rfl, rfl, rfl⟩
theorem rraAbsY (w : Word) : Statement (.rraAbsY w) := ⟨_, _, _, rfl, rfl, rfl, rfl, rfl⟩
theorem nopAbsX7C (w : Word) : Statement (.nopAbsX7C w) := ⟨_, _, _, rfl, rfl, rfl, rfl, rfl⟩
theorem adcAbsX (w : Word) : Statement (.adcAbsX w) := ⟨_, _, _, rfl, rfl, rfl, rfl, rfl⟩
theorem rorAbsX (w : Word) : Statement (.rorAbsX w) := ⟨_, _, _, rfl, rfl, rfl, rfl, rfl⟩
theorem rraAbsX (w : Word) : Statement (.rraAbsX w) := ⟨_, _, _, rfl, rfl, rfl, rfl, rfl⟩
theorem nopImm80 (v : Byte) : Statement (.nopImm80 v) := ⟨_, _, _, rfl, rfl, rfl, rfl, rfl⟩
theorem staIndX (v : Byte) : Statement (.staIndX v) := ⟨_, _, _, rfl, rfl, rfl, rfl, rfl⟩
theorem nopImm82 (v : Byte) : Statement (.nopImm82 v) := ⟨_, _, _, rfl, rfl, rfl, rfl, rfl⟩
theorem saxIndX (v : Byte) : Statement (.saxIndX v) := ⟨_, _, _, rfl, rfl, rfl, rfl, rfl⟩
theorem styZp (v : Byte) : Statement (.styZp v) := ⟨_, _, _, rfl, rfl, rfl, rfl, rfl⟩
theorem staZp (v : Byte) : Statement (.staZp v) := ⟨_, _, _, rfl, rfl, rfl, rfl, rfl⟩
theorem stxZp (v : Byte) : Statement (.stxZp v) := ⟨_, _, _, rfl, rfl, rfl, rfl, rfl⟩
theorem saxZp (v : Byte) : Statement (.saxZp v) := ⟨_, _, _, rfl, rfl, rfl, rfl, rfl⟩
theorem dey : Statement .dey := ⟨_, _, _, rfl, rfl, rfl, rfl, rfl⟩
theorem nopImm89 (v : Byte) : Statement (.nopImm89 v) := ⟨_, _, _, rfl, rfl, rfl, rfl, rfl⟩
theorem txa : Statement .txa := ⟨_, _, _, rfl, rfl, rfl, rfl, rfl⟩
theorem aneImm (v : Byte) : Statement (.aneImm v) := ⟨_, _, _, rfl, rfl, rfl, rfl, rfl⟩
theorem styAbs (w : Word) : Statement (.styAbs w) := ⟨_, _, _, rfl, rfl, rfl, rfl, rfl⟩
theorem staAbs (w : Word) : Statement (.staAbs w) := ⟨_, _, _, rfl, rfl, rfl, rfl, rfl⟩
theorem stxAbs (w : Word) : Statement (.stxAbs w) := ⟨_, _, _, rfl, rfl, rfl, rfl, rfl⟩
theorem saxAbs (w : Word) : Statement (.saxAbs w) := ⟨_, _, _, rfl, rfl, rfl, rfl, rfl⟩
theorem bcc (v : Byte) : Statement (.bcc v) := ⟨_, _, _, rfl, rfl, rfl, rfl, rfl⟩
theorem staIndY (v : Byte) : Statement (.staIndY v) := ⟨_, _, _, rfl, rfl, rfl, rfl, rfl⟩
theorem jam92 : Statement .jam92 := ⟨_, _, _, rfl, rfl, rfl, rfl, rfl⟩
theorem shaIndY (v : Byte) : Statement (.shaIndY v) := ⟨_, _, _, rfl, rfl, rfl, rfl, rfl⟩
theorem styZpX (v : Byte) : Statement (.styZpX v) := ⟨_, _, _, rfl, rfl, rfl, rfl, rfl⟩
theorem staZpX (v : Byte) : Statement (.staZpX v) := ⟨_, _, _, rfl, rfl, rfl, rfl, rfl⟩
theorem stxZpY (v : Byte) : Statement (.stxZpY v) := ⟨_, _, _, rfl, rfl, rfl, rfl, rfl⟩
theorem saxZpY (v : Byte) : Statement (.saxZpY v) := ⟨_, _, _, rfl, rfl, rfl, rfl, rfl⟩
theorem tya : Statement .tya := ⟨_, _, _, rfl, rfl, rfl, rfl, rfl⟩
theorem staAbsY (w : Word) : Statement (.staAbsY w) := ⟨_, _, _, rfl, rfl, rfl, rfl, rfl⟩
theorem txs : Statement .txs := ⟨_, _, _, rfl, rfl, rfl, rfl, rfl⟩
theorem shsAbsY (w : Word) : Statement (.shsAbsY w) := ⟨_, _, _, rfl, rfl, rfl, rfl, rfl⟩
theorem shyAbsX (w : Word) : Statement (.shyAbsX w) := ⟨_, _, _, rfl, rfl, rfl, rfl, rfl⟩
theorem staAbsX (w : Word) : Statement (.staAbsX w) := ⟨_, _, _, rfl, rfl, rfl, rfl, rfl⟩
theorem shxAbsY (w : Word) : Statement (.shxAbsY w) := ⟨_, _, _, rfl, rfl, rfl, rfl, rfl⟩
theorem shaAbsY (w : Word) : Statement (.shaAbsY w) := ⟨_, _, _, rfl, rfl, rfl, rfl, rfl⟩
theorem ldyImm (v : Byte) : Statement (.ldyImm v) := ⟨_, _, _, rfl, rfl, rfl, rfl, rfl⟩
theorem ldaIndX (v : Byte) : Statement (.ldaIndX v) := ⟨_, _, _, rfl, rfl, rfl, rfl, rfl⟩
theorem ldxImm (v : Byte) : Statement (.ldxImm v) := ⟨_, _, _, rfl, rfl, rfl, rfl, rfl⟩
theorem laxIndX (v : Byte) : Statement (.laxIndX v) := ⟨_, _, _, rfl, rfl, rfl, rfl, rfl⟩
theorem ldyZp (v : Byte) : Statement (.ldyZp v) := ⟨_, _, _, rfl, rfl, rfl, rfl, rfl⟩
theorem ldaZp (v : Byte) : Statement (.ldaZp v) := ⟨_, _, _, rfl, rfl, rfl, rfl, rfl⟩
theorem ldxZp (v : Byte) : Statement (.ldxZp v) := ⟨_, _, _, rfl, rfl, rfl, rfl, rfl⟩
theorem laxZp (v : Byte) : Statement (.laxZp v) := ⟨_, _, _, rfl, rfl, rfl, rfl, rfl⟩
theorem tay : Statement .tay := ⟨_, _, _, rfl, rfl, rfl, rfl, rfl⟩
theorem ldaImm (v : Byte) : Statement (.ldaImm v) := ⟨_, _, _, rfl, rfl, rfl, rfl, rfl⟩
theorem tax : Statement .tax := ⟨_, _, _, rfl, rfl, rfl, rfl, rfl⟩
theorem lxaImm (v : Byte) : Statement (.lxaImm v) := ⟨_, _, _, rfl, rfl, rfl, rfl, rfl⟩
theorem ldyAbs (w : Word) : Statement (.ldyAbs w) := ⟨_, _, _, rfl, rfl, rfl, rfl, rfl⟩
theorem ldaAbs (w : Word) : Statement (.ldaAbs w) := ⟨_, _, _, rfl, rfl, rfl, rfl, rfl⟩
theorem ldxAbs (w : Word) : Statement (.ldxAbs w) := ⟨_, _, _, rfl, rfl, rfl, rfl, rfl⟩
theorem laxAbs (w : Word) : Statement (.laxAbs w) := ⟨_, _, _, rfl, rfl, rfl, rfl, rfl⟩
theorem bcs (v : Byte) : Statement (.bcs v) := ⟨_, _, _, rfl, rfl, rfl, rfl, rfl⟩
theorem ldaIndY (v : Byte) : Statement (.ldaIndY v) := ⟨_, _, _, rfl, rfl, rfl, rfl, rfl⟩
theorem jamB2 : Statement .jamB2 := ⟨_, _, _, rfl, rfl, rfl, rfl, rfl⟩
theorem laxIndY (v : Byte) : Statement (.laxIndY v) := ⟨_, _, _, rfl, rfl, rfl, rfl, rfl⟩
theorem ldyZpX (v : Byte) : Statement (.ldyZpX v) := ⟨_, _, _, rfl, rfl, rfl, rfl, rfl⟩
theorem ldaZpX (v : Byte) : Statement (.ldaZpX v) := ⟨_, _, _, rfl, rfl, rfl, rfl, rfl⟩
theorem ldxZpY (v : Byte) : Statement (.ldxZpY v) := ⟨_, _, _, rfl, rfl, rfl, rfl, rfl⟩
theorem laxZpY (v : Byte) : Statement (.laxZpY v) := ⟨_, _, _, rfl, rfl, rfl, rfl, rfl⟩
theorem clv : Statement .clv := ⟨_, _, _, rfl, rfl, rfl, rfl, rfl⟩
theorem ldaAbsY (w : Word) : Statement (.ldaAbsY w) := ⟨_, _, _, rfl, rfl, rfl, rfl, rfl⟩
theorem tsx : Statement .tsx := ⟨_, _, _, rfl, rfl, rfl, rfl, rfl⟩
theorem laeAbsY (w : Word) : Statement (.laeAbsY w) := ⟨_, _, _, rfl, rfl, rfl, rfl, rfl⟩
theorem ldyAbsX (w : Word) : Statement (.ldyAbsX w) := ⟨_, _, _, rfl, rfl, rfl, rfl, rfl⟩
theorem ldaAbsX (w : Word) : Statement (.ldaAbsX w) := ⟨_, _, _, rfl, rfl, rfl, rfl, rfl⟩
theorem ldxAbsY (w : Word) : Statement (.ldxAbsY w) := ⟨_, _, _, rfl, rfl, rfl, rfl, rfl⟩
theorem laxAbsY (w : Word) : Statement (.laxAbsY w) := ⟨_, _, _, rfl, rfl, rfl, rfl, rfl⟩
theorem cpyImm (v : Byte) : Statement (.cpyImm v) := ⟨_, _, _, rfl, rfl, rfl, rfl, rfl⟩
theorem cmpIndX (v : Byte) : Statement (.cmpIndX v) := ⟨_, _, _, rfl, rfl, rfl, rfl, rfl⟩
theorem nopImmC2 (v : Byte) : Statement (.nopImmC2 v) := ⟨_, _, _, rfl, rfl, rfl, rfl, rfl⟩
theorem dcpIndX (v : Byte) : Statement (.dcpIndX v) := ⟨_, _, _, rfl, rfl, rfl, rfl, rfl⟩
theorem cpyZp (v : Byte) : Statement (.cpyZp v) := ⟨_, _, _, rfl, rfl, rfl, rfl, rfl⟩
theorem cmpZp (v : Byte) : Statement (.cmpZp v) := ⟨_, _, _, rfl, rfl, rfl, rfl, rfl⟩
theorem decZp (v : Byte) : Statement (.decZp v) := ⟨_, _, _, rfl, rfl, rfl, rfl, rfl⟩
theorem dcpZp (v : Byte) : Statement (.dcpZp v) := ⟨_, _, _, rfl, rfl, rfl, rfl, rfl⟩
theorem iny : Statement .iny := ⟨_, _, _, rfl, rfl, rfl, rfl, rfl⟩
theorem cmpImm (v : Byte) : Statement (.cmpImm v) := ⟨_, _, _, rfl, rfl, rfl, rfl, rfl⟩
theorem dex : Statement .dex := ⟨_, _, _, rfl, rfl, rfl, rfl, rfl⟩
theorem sbxImm (v : Byte) : Statement (.sbxImm v) := ⟨_, _, _, rfl, rfl, rfl, rfl, rfl⟩
theorem cpyAbs (w : Word) : Statement (.cpyAbs w) := ⟨_, _, _, rfl, rfl, rfl, rfl, rfl⟩
theorem cmpAbs (w : Word) : Statement (.cmpAbs w) := ⟨_, _, _, rfl, rfl, rfl, rfl, rfl⟩
theorem decAbs (w : Word) : Statement (.decAbs w) := ⟨_, _, _, rfl, rfl, rfl, rfl, rfl⟩
theorem dcpAbs (w : Word) : Statement (.dcpAbs w) := ⟨_, _, _, rfl, rfl, rfl, rfl, rfl⟩
theorem bne (v : Byte) : Statement (.bne v) := ⟨_, _, _, rfl, rfl, rfl, rfl, rfl⟩
theorem cmpIndY (v : Byte) : Statement (.cmpIndY v) := ⟨_, _, _, rfl, rfl, rfl, rfl, rfl⟩
theorem jamD2 : Statement .jamD2 := ⟨_, _, _, rfl, rfl, rfl, rfl, rfl⟩
theorem dcpIndY (v : Byte) : Statement (.dcpIndY v) := ⟨_, _, _, rfl, rfl, rfl, rfl, rfl⟩
theorem nopZpXD4 (v : Byte) : Statement (.nopZpXD4 v) := ⟨_, _, _, rfl, rfl, rfl, rfl, rfl⟩
theorem cmpZpX (v : Byte) : Statement (.cmpZpX v) := ⟨_, _, _, rfl, rfl, rfl, rfl, rfl⟩
theorem decZpX (v : Byte) : Statement (.decZpX v) := ⟨_, _, _, rfl, rfl, rfl, rfl, rfl⟩
theorem dcpZpX (v : Byte) : Statement (.dcpZpX v) := ⟨_, _, _, rfl, rfl, rfl, rfl, rfl⟩
theorem cld : Statement .cld := ⟨_, _, _, rfl, rfl, rfl, rfl, rfl⟩
theorem cmpAbsY (w : Word) : Statement (.cmpAbsY w) := ⟨_, _, _, rfl, rfl, rfl, rfl, rfl⟩
theorem nopDA : Statement .nopDA := ⟨_, _, _, rfl, rfl, rfl, rfl, rfl⟩
theorem dcpAbsY (w : Word) : Statement (.dcpAbsY w) := ⟨_, _, _, rfl, rfl, rfl, rfl, rfl⟩
theorem nopAbsXDC (w : Word) : Statement (.nopAbsXDC w) := ⟨_, _, _, rfl, rfl, rfl, rfl, rfl⟩
theorem cmpAbsX (w : Word) : Statement (.cmpAbsX w) := ⟨_, _, _, rfl, rfl, rfl, rfl, rfl⟩
theorem decAbsX (w : Word) : Statement (.decAbsX w) := ⟨_, _, _, rfl, rfl, rfl, rfl, rfl⟩
theorem dcpAbsX (w : Word) : Statement (.dcpAbsX w) := ⟨_, _, _, rfl, rfl, rfl, rfl, rfl⟩
theorem cpxImm (v : Byte) : Statement (.cpxImm v) := ⟨_, _, _, rfl, rfl, rfl, rfl, rfl⟩
theorem sbcIndX (v : Byte) : Statement (.sbcIndX v) := ⟨_, _, _, rfl, rfl, rfl, rfl, rfl⟩
theorem nopImmE2 (v : Byte) : Statement (.nopImmE2 v) := ⟨_, _, _, rfl, rfl, rfl, rfl, rfl⟩
theorem isbIndX (v : Byte) : Statement (.isbIndX v) := ⟨_, _, _, rfl, rfl, rfl, rfl, rfl⟩
theorem cpxZp (v : Byte) : Statement (.cpxZp v) := ⟨_, _, _, rfl, rfl, rfl, rfl, rfl⟩
theorem sbcZp (v : Byte) : Statement (.sbcZp v) := ⟨_, _, _, rfl, rfl, rfl, rfl, rfl⟩
theorem incZp (v : Byte) : Statement (.incZp v) := ⟨_, _, _, rfl, rfl, rfl, rfl, rfl⟩
theorem isbZp (v : Byte) : Statement (.isbZp v) := ⟨_, _, _, rfl, rfl, rfl, rfl, rfl⟩
theorem inx : Statement .inx := ⟨_, _, _, rfl, rfl, rfl, rfl, rfl⟩
theorem sbcImm (v : Byte) : Statement (.sbcImm v) := ⟨_, _, _, rfl, rfl, rfl, rfl, rfl⟩
theorem nop : Statement .nop := ⟨_, _, _, rfl, rfl, rfl, rfl, rfl⟩
theorem sbcImmEB (v : Byte) : Statement (.sbcImmEB v) := ⟨_, _, _, rfl, rfl, rfl, rfl, rfl⟩
theorem cpxAbs (w : Word) : Statement (.cpxAbs w) := ⟨_, _, _, rfl, rfl, rfl, rfl, rfl⟩
theorem sbcAbs (w : Word) : Statement (.sbcAbs w) := ⟨_, _, _, rfl, rfl, rfl, rfl, rfl⟩
theorem incAbs (w : Word) : Statement (.incAbs w) := ⟨_, _, _, rfl, rfl, rfl, rfl, rfl⟩
theorem isbAbs (w : Word) : Statement (.isbAbs w) := ⟨_, _, _, rfl, rfl, rfl, rfl, rfl⟩
theorem beq (v : Byte) : Statement (.beq v) := ⟨_, _, _, rfl, rfl, rfl, rfl, rfl⟩
theorem sbcIndY (v : Byte) : Statement (.sbcIndY v) := ⟨_, _, _, rfl, rfl, rfl, rfl, rfl⟩
theorem jamF2 : Statement .jamF2 := ⟨_, _, _, rfl, rfl, rfl, rfl, rfl⟩
theorem isbIndY (v : Byte) : Statement (.isbIndY v) := ⟨_, _, _, rfl, rfl, rfl, rfl, rfl⟩
theorem nopZpXF4 (v : Byte) : Statement (.nopZpXF4 v) := ⟨_, _, _, rfl, rfl, rfl, rfl, rfl⟩
theorem sbcZpX (v : Byte) : Statement (.sbcZpX v) := ⟨_, _, _, rfl, rfl, rfl, rfl, rfl⟩
theorem incZpX (v : Byte) : Statement (.incZpX v) := ⟨_, _, _, rfl, rfl, rfl, rfl, rfl⟩
theorem isbZpX (v : Byte) : Statement (.isbZpX v) := ⟨_, _, _, rfl, rfl, rfl, rfl, rfl⟩
theorem sed : Statement .sed := ⟨_, _, _, rfl, rfl, rfl, rfl, rfl⟩
theorem sbcAbsY (w : Word) : Statement (.sbcAbsY w) := ⟨_, _, _, rfl, rfl, rfl, rfl, rfl⟩
theorem nopFA : Statement .nopFA := ⟨_, _, _, rfl, rfl, rfl, rfl, rfl⟩
theorem isbAbsY (w : Word) : Statement (.isbAbsY w) := ⟨_, _, _, rfl, rfl, rfl, rfl, rfl⟩
theorem nopAbsXFC (w : Word) : Statement (.nopAbsXFC w) := ⟨_, _, _, rfl, rfl, rfl, rfl, rfl⟩
theorem sbcAbsX (w : Word) : Statement (.sbcAbsX w) := ⟨_, _, _, rfl, rfl, rfl, rfl, rfl⟩
theorem incAbsX (w : Word) : Statement (.incAbsX w) := ⟨_, _, _, rfl, rfl, rfl, rfl, rfl⟩
theorem isbAbsX (w : Word) : Statement (.isbAbsX w) := ⟨_, _, _, rfl, rfl, rfl, rfl, rfl⟩

end Sys2Proof.Laws.Encoding
end

