-- ==== Sys2Proof/Laws/Step.lean ====
section
/-! SUPPORT. What the interrupt polls, the fetch and a whole iteration can do, each said once. -/

namespace Sys2Proof.Machine

/-! ### What an iteration keeps -/

/-- What every part of an iteration leaves: the status, the cartridge, the mapper's variant, and the canonical form of
RAM and bit 5 of P where they held. -/
structure Kept (s t : State) : Prop where
  status  : t.status = s.status
  cart    : t.cart = s.cart
  variant : SameVariant s.mapper t.mapper
  ramForm : Memory.wf 2048 s.ram → Memory.wf 2048 t.ram
  bitFive : getFlag .U s.p = true → getFlag .U t.p = true

theorem Kept.refl (s : State) : Kept s s := ⟨rfl, rfl, SameVariant.refl _, id, id⟩

theorem Kept.trans {s t u : State} (h : Kept s t) (k : Kept t u) : Kept s u :=
  ⟨k.status.trans h.status, k.cart.trans h.cart, h.variant.trans k.variant, fun w => k.ramForm (h.ramForm w),
   fun w => k.bitFive (h.bitFive w)⟩

theorem Effect.kept {s t : State} (h : Effect s t) : Kept s t :=
  ⟨h.status, h.cart, h.variant, h.ramForm, h.bitFive⟩

theorem tick_kept (n : Nat) (s : State) : Kept s (tick n s) := by
  obtain ⟨i, inputs, draws, h⟩ := tick_eq n s
  rw [h]
  exact ⟨rfl, rfl, mapperAfterChr_variant _ _, id, id⟩

theorem tickSome_kept (n : Option Nat) (s : State) : Kept s (tickSome n s) := by
  cases n with
  | none => exact Kept.refl s
  | some n => exact tick_kept n s

/-! ### Vectors and entries -/

/-- A read at 0x8000 or above is read_prg's byte, and leaves the machine (20_memory.md R51, R52). -/
theorem memRead_high {a : Word} (h : 0x8000 ≤ a.toNat) (s : State) : memRead a s = (readPrg s a, s) := by
  apply memRead_of_mapper
  unfold regionOf
  rw [if_neg (by omega), if_neg (by omega), if_neg (by omega), if_neg (by omega)]

/-- A vector is read from PRG, and leaves the machine (R68). -/
theorem memRead16_high {a : Word} (h : 0x8000 ≤ a.toNat) (k : 0x8000 ≤ (a + 1).toNat) (s : State) :
    memRead16 a s = (wordOf (readPrg s (a + 1)) (readPrg s a), s) := by
  unfold memRead16
  simp only [memRead_high h, memRead_high k]

theorem readPrg_of_eq {s t : State} (hc : t.cart = s.cart)
    (hm : ∀ len a, prgOffset t.mapper len a = prgOffset s.mapper len a) (a : Word) : readPrg t a = readPrg s a := by
  simp [readPrg, hc, hm]

/-- The PRG banks do not move in a tick. -/
theorem prgOffset_tick (n : Nat) (s : State) (len : Nat) (a : Word) :
    prgOffset (tick n s).mapper len a = prgOffset s.mapper len a := by
  obtain ⟨i, inputs, draws, h⟩ := tick_eq n s
  rw [h]
  exact prgOffset_afterChr _ _ _ _

theorem readPrg_tick (n : Nat) (s : State) (a : Word) : readPrg (tick n s) a = readPrg s a :=
  readPrg_of_eq (tick_cart n s) (prgOffset_tick n s) a

/-- The machine after the three pushes of an entry. -/
def pushFrame (ret : Word) (status : Byte) (s : State) : State := push status (push16 ret s)

theorem pushFrame_eq (ret : Word) (status : Byte) (s : State) :
    pushFrame ret status s =
      { s with
        ram := ((s.ram.write (256 + s.sp.toNat) (hi ret)).write (256 + (s.sp - 1).toNat) (lo ret)).write
          (256 + (s.sp - 1 - 1).toNat) status
        sp := s.sp - 1 - 1 - 1 } := by
  simp [pushFrame, push16_eq, push_eq]

/-- An entry, all of it but what its ticks bring: the pushes, the vector, and the flags. -/
theorem takeException_eq (e : Entry) (s : State) (h : 0x8000 ≤ e.vector.toNat) (k : 0x8000 ≤ (e.vector + 1).toNat) :
    takeException e s =
      tickSome e.ticksAfter
        { tickSome e.ticksBefore (pushFrame e.returnTo e.pushedStatus s) with
          pc := wordOf (readPrg (tickSome e.ticksBefore (pushFrame e.returnTo e.pushedStatus s)) (e.vector + 1))
            (readPrg (tickSome e.ticksBefore (pushFrame e.returnTo e.pushedStatus s)) e.vector)
          p := (if e.setsI then setFlag .I true else id) ((if e.setsBreak then setFlag .B true else id)
            (tickSome e.ticksBefore (pushFrame e.returnTo e.pushedStatus s)).p) } := by
  unfold takeException pushFrame
  simp only [memRead16_high h k]

theorem readPrg_pushFrame (ret : Word) (status : Byte) (s : State) (a : Word) :
    readPrg (pushFrame ret status s) a = readPrg s a := by
  rw [pushFrame_eq]; rfl

/-- NMI entry (60 R334). -/
theorem nmiEntry_eq (s : State) :
    nmiEntry s =
      { tick 2 (pushFrame s.pc (nmiByte s.p) { s with nmiPending := false }) with
        pc := wordOf (readPrg s 0xFFFB) (readPrg s 0xFFFA)
        p := setFlag .I true s.p } := by
  unfold nmiEntry
  rw [takeException_eq (nmiEntryOf s) _ (show 0x8000 ≤ (0xFFFA : Word).toNat by decide)
    (show 0x8000 ≤ (0xFFFA + 1 : Word).toNat by decide)]
  simp only [nmiEntryOf, tickSome, Params.nmiEntryTicks, Params.nmiVector, readPrg_tick, readPrg_pushFrame, tick_p]
  rw [pushFrame_eq]
  rfl

/-- IRQ entry (60 R336). -/
theorem irqEntry_eq (s : State) :
    irqEntry s =
      tick 2
        { pushFrame s.pc s.p s with
          pc := wordOf (readPrg s 0xFFFF) (readPrg s 0xFFFE)
          p := setFlag .I true (setFlag .B true s.p) } := by
  unfold irqEntry
  rw [takeException_eq (irqEntryOf s) _ (show 0x8000 ≤ (0xFFFE : Word).toNat by decide)
    (show 0x8000 ≤ (0xFFFE + 1 : Word).toNat by decide)]
  simp only [irqEntryOf, Params.brkPushStyle, tickSome, Params.irqEntryTicks, Params.irqVector, Params.irqSetsI,
    readPrg_pushFrame]
  rw [pushFrame_eq]
  rfl

/-- BRK's entry (45 R282). -/
theorem brkEntry_eq (s : State) :
    brkEntry s =
      { pushFrame (s.pc + 1) s.p s with
        pc := wordOf (readPrg s 0xFFFF) (readPrg s 0xFFFE)
        p := setFlag .I true (setFlag .B true s.p) } := by
  unfold brkEntry
  rw [takeException_eq (brkEntryOf s) _ (show 0x8000 ≤ (0xFFFE : Word).toNat by decide)
    (show 0x8000 ≤ (0xFFFE + 1 : Word).toNat by decide)]
  simp only [brkEntryOf, Params.brkPushStyle, tickSome, Params.irqVector, Params.irqSetsI, readPrg_pushFrame]
  rw [pushFrame_eq]
  rfl

theorem takeException_kept (e : Entry) (s : State) : Kept s (takeException e s) := by
  unfold takeException
  dsimp only
  refine (((push16_effect e.returnTo s).trans (push_effect e.pushedStatus _)).kept.trans
    (tickSome_kept e.ticksBefore _)).trans ?_
  generalize tickSome e.ticksBefore (push e.pushedStatus (push16 e.returnTo s)) = q
  refine Kept.trans ?_ (tickSome_kept e.ticksAfter _)
  refine Effect.kept (Effect.trans (?_ : Effect q (memRead16 e.vector q).2) ?_)
  · exact (memRead_effect _ _).trans (memRead_effect _ _)
  · refine Effect.registers _ _ _ _ _ _ _ _ _ _ fun w => ?_
    rw [memRead16_p] at w
    cases e.setsI <;> cases e.setsBreak <;> simp [w]

theorem nmiEntry_kept (s : State) : Kept s (nmiEntry s) :=
  Kept.trans (⟨rfl, rfl, SameVariant.refl _, id, id⟩ : Kept s { s with nmiPending := false }) (takeException_kept _ _)

theorem pollInterrupts_kept (s : State) : Kept s (pollInterrupts s) := by
  unfold pollInterrupts
  split
  · exact nmiEntry_kept s
  · split
    · exact takeException_kept _ s
    · exact Kept.refl s

/-! ### The fetch -/

/-- Every opcode byte has a row (30_encoding.md R127). -/
theorem lookup_some (op : Byte) : ∃ d b, lookup op = some (d, b) := by
  have h : ∀ op : Byte, (lookup op).isSome = true := by decide
  obtain ⟨x, hx⟩ := Option.isSome_iff_exists.1 (h op)
  exact ⟨x.1, x.2, hx⟩

theorem fetchOperand_touched (b : Format) (s : State) : Touched s (fetchOperand b s).2 := by
  cases b with
  | f1 i => exact Touched.refl s
  | f2 f => exact touched_memRead _ s
  | f3 f => exact (touched_memRead _ s).trans (touched_memRead _ _)

/-- A fetch finds an instruction with the row of its opcode byte, and leaves pc one past that byte; nothing else
changes but extra and the record of the environment. -/
theorem fetch_cases (s : State) :
    ∃ d b u, lookup (memRead s.pc s).1 = some (d, b) ∧
      fetch s = .instr (fetchOperand b.format (resetExtra d (fetchOpcode s).2)).1 d u ∧
      Touched { s with pc := s.pc + 1 } u ∧
      (d.mnemonic.unsupported = false → u.extra = 0) := by
  obtain ⟨d, b, h⟩ := lookup_some (memRead s.pc s).1
  refine ⟨d, b, if d.mnemonic.unsupported then resetExtra d (fetchOpcode s).2
    else (fetchOperand b.format (resetExtra d (fetchOpcode s).2)).2, h, ?_, ?_, ?_⟩
  · unfold fetch; simp only [fetchOpcode, h]
  · have operand : Touched (resetExtra d (fetchOpcode s).2) (if d.mnemonic.unsupported then
        resetExtra d (fetchOpcode s).2 else (fetchOperand b.format (resetExtra d (fetchOpcode s).2)).2) := by
      split
      · exact Touched.refl _
      · exact fetchOperand_touched _ _
    refine Touched.trans ?_ operand
    obtain ⟨e, an, dr, ev, hr⟩ := touched_memRead s.pc s
    have h1 : (fetchOpcode s).2 = { (memRead s.pc s).2 with pc := s.pc + 1 } := rfl
    unfold resetExtra
    rw [h1, hr]
    split
    · exact ⟨e, an, dr, ev, rfl⟩
    · exact ⟨0, an, dr, ev, rfl⟩
  · intro hu
    have keep : ∀ (f : Format) (t : State), (fetchOperand f t).2.extra = t.extra := by
      intro f t
      cases f with
      | f1 i => rfl
      | f2 f => exact memRead_extra _ _
      | f3 f => exact memRead16_extra _ _
    simp [keep, resetExtra, hu]

/-! ### One iteration -/

theorem applyPenalty_none (n : Nat) : applyPenalty .none n = 0 := rfl

theorem finish_kept (d : Descriptor) (s : State) : Kept s (finish d s) :=
  Kept.trans (⟨rfl, rfl, SameVariant.refl _, id, id⟩ : Kept s { s with extra := applyPenalty d.penalty s.extra })
    (tick_kept _ _)

/-- An iteration of a Running machine, taken apart: the polls, a fetch, and either an instruction that completes, with
the penalty class and the tick after it, or an unsupported one, which faults. -/
theorem step_cases {s : State} (h : s.status = .running) :
    ∃ i d u, fetch (pollInterrupts s) = .instr i d u ∧
      Touched { pollInterrupts s with pc := (pollInterrupts s).pc + 1 } u ∧
      ((∃ v, exec i u = .next v ∧ Effect u v ∧ step s = .next (finish d v)) ∨
       (∃ op, exec i u = unsupported op u ∧ step s = unsupported op u)) := by
  obtain ⟨d, b, u, hl, hf, ht, -⟩ := fetch_cases (pollInterrupts s)
  generalize (fetchOperand b.format (resetExtra d (fetchOpcode (pollInterrupts s)).2)).1 = i at hf
  refine ⟨i, d, u, hf, ht, ?_⟩
  have hs : step s = afterExec d (exec i u) := by unfold step; rw [h]; simp only [hf, runFetched]
  rcases exec_completes i u with ⟨v, hv, he⟩ | ⟨op, ho⟩
  · exact .inl ⟨v, hv, he, by rw [hs, hv]; rfl⟩
  · exact .inr ⟨op, ho, by rw [hs, ho]; rfl⟩

/-- A step of a machine that is not Running is its fault again. -/
theorem step_faulted {s : State} {r : FaultReason} (h : s.status = .faulted r) : step s = faultOf r s := by
  unfold step; rw [h]

end Sys2Proof.Machine
end

