-- ==== Sys2Proof/Tests/Slice0.lean ====
section
/-! SUPPORT. The model's own tests: ill-formed terms that the checks refuse, every row's word decoded, one iteration of each
instruction against the vectors of 95_test_vectors.md, the interrupts, the bus and the mappers, and for every statement
with hypotheses a state that meets them. Expected values come from spec/, never from the model. -/

namespace Sys2Proof.Tests

open Sys2Proof Sys2Proof.Machine

/-! ### Well-formedness -/

/-- A row of the table, LDA abs,X, from which the ill-formed ones are made. -/
def goodRow : Descriptor :=
  { code := 0xBD, mnemonic := .LDA, length := 3, cycles := 4, penalty := .page, mode := .absoluteX }

theorem test_wf_good : goodRow.wf = true ∧ goodRow.fits [0xBD, 0x00, 0x02] = true := by decide
theorem test_wf_refuses_noneAddressing : ({ goodRow with mode := .noneAddressing, length := 0 } : Descriptor).wf = false := by
  decide
theorem test_wf_refuses_length : ({ goodRow with length := 2 } : Descriptor).wf = false := by decide
theorem test_wf_refuses_branch_class : ({ goodRow with penalty := .branch } : Descriptor).wf = false := by decide
theorem test_wf_refuses_relative_without_branch :
    ({ goodRow with mode := .relative, length := 2, penalty := .none } : Descriptor).wf = false := by decide
theorem test_wf_refuses_page_class : ({ goodRow with mode := .absolute } : Descriptor).wf = false := by decide
theorem test_fits_refuses_opcode : goodRow.fits [0xB9, 0x00, 0x02] = false := by decide
theorem test_fits_refuses_length : goodRow.fits [0xBD, 0x00] = false := by decide
theorem test_fits_refuses_missing_operand_of_unsupported :
    ({ goodRow with code := 0x9C, mnemonic := .SHY } : Descriptor).fits [0x9C] = false ∧
    ({ goodRow with code := 0x9C, mnemonic := .SHY } : Descriptor).fits [0x9C, 0x00, 0x02] = true := by decide

/-! ### Decoding: every row's word, written from the Encodings line of its rule, operand bytes 12 and 34 -/

/-- Each string of bytes decodes to its instruction with nothing left over. -/
def decodes (l : List (List Byte × Instr)) : Bool :=
  l.all fun q => match decode q.1 with
    | .ok (i, []) => decide (i = q.2)
    | _ => false

theorem test_decode_rejects : decode [] = .error .noBytes ∧ decode [0xAD, 0x34] = .error (.truncated 0xAD) ∧
    decode [0xA9] = .error (.truncated 0xA9) ∧ decode [0x0B] = .error (.truncated 0x0B) ∧
    decode [0x9C, 0x34] = .error (.truncated 0x9C) := ⟨rfl, rfl, rfl, rfl, rfl⟩

theorem test_decode_loads : decodes
  [([0xA1, 0x12], .ldaIndX 0x12), ([0xA5, 0x12], .ldaZp 0x12), ([0xA9, 0x12], .ldaImm 0x12),
   ([0xAD, 0x12, 0x34], .ldaAbs 0x3412), ([0xB1, 0x12], .ldaIndY 0x12), ([0xB5, 0x12], .ldaZpX 0x12),
   ([0xB9, 0x12, 0x34], .ldaAbsY 0x3412), ([0xBD, 0x12, 0x34], .ldaAbsX 0x3412), ([0xA2, 0x12], .ldxImm 0x12),
   ([0xA6, 0x12], .ldxZp 0x12), ([0xAE, 0x12, 0x34], .ldxAbs 0x3412), ([0xB6, 0x12], .ldxZpY 0x12),
   ([0xBE, 0x12, 0x34], .ldxAbsY 0x3412), ([0xA0, 0x12], .ldyImm 0x12), ([0xA4, 0x12], .ldyZp 0x12),
   ([0xAC, 0x12, 0x34], .ldyAbs 0x3412), ([0xB4, 0x12], .ldyZpX 0x12), ([0xBC, 0x12, 0x34], .ldyAbsX 0x3412)] = true := by decide

theorem test_decode_stores : decodes
  [([0x81, 0x12], .staIndX 0x12), ([0x85, 0x12], .staZp 0x12), ([0x8D, 0x12, 0x34], .staAbs 0x3412),
   ([0x91, 0x12], .staIndY 0x12), ([0x95, 0x12], .staZpX 0x12), ([0x99, 0x12, 0x34], .staAbsY 0x3412),
   ([0x9D, 0x12, 0x34], .staAbsX 0x3412), ([0x86, 0x12], .stxZp 0x12), ([0x8E, 0x12, 0x34], .stxAbs 0x3412),
   ([0x96, 0x12], .stxZpY 0x12), ([0x84, 0x12], .styZp 0x12), ([0x8C, 0x12, 0x34], .styAbs 0x3412),
   ([0x94, 0x12], .styZpX 0x12)] = true := by decide

theorem test_decode_transfers : decodes
  [([0xAA], .tax), ([0xA8], .tay), ([0x8A], .txa), ([0x98], .tya), ([0xBA], .tsx), ([0x9A], .txs)] = true := by decide

theorem test_decode_adc_sbc : decodes
  [([0x61, 0x12], .adcIndX 0x12), ([0x65, 0x12], .adcZp 0x12), ([0x69, 0x12], .adcImm 0x12),
   ([0x6D, 0x12, 0x34], .adcAbs 0x3412), ([0x71, 0x12], .adcIndY 0x12), ([0x75, 0x12], .adcZpX 0x12),
   ([0x79, 0x12, 0x34], .adcAbsY 0x3412), ([0x7D, 0x12, 0x34], .adcAbsX 0x3412), ([0xE1, 0x12], .sbcIndX 0x12),
   ([0xE5, 0x12], .sbcZp 0x12), ([0xE9, 0x12], .sbcImm 0x12), ([0xED, 0x12, 0x34], .sbcAbs 0x3412),
   ([0xF1, 0x12], .sbcIndY 0x12), ([0xF5, 0x12], .sbcZpX 0x12), ([0xF9, 0x12, 0x34], .sbcAbsY 0x3412),
   ([0xFD, 0x12, 0x34], .sbcAbsX 0x3412)] = true := by decide

theorem test_decode_logic : decodes
  [([0x21, 0x12], .andIndX 0x12), ([0x25, 0x12], .andZp 0x12), ([0x29, 0x12], .andImm 0x12),
   ([0x2D, 0x12, 0x34], .andAbs 0x3412), ([0x31, 0x12], .andIndY 0x12), ([0x35, 0x12], .andZpX 0x12),
   ([0x39, 0x12, 0x34], .andAbsY 0x3412), ([0x3D, 0x12, 0x34], .andAbsX 0x3412), ([0x01, 0x12], .oraIndX 0x12),
   ([0x05, 0x12], .oraZp 0x12), ([0x09, 0x12], .oraImm 0x12), ([0x0D, 0x12, 0x34], .oraAbs 0x3412),
   ([0x11, 0x12], .oraIndY 0x12), ([0x15, 0x12], .oraZpX 0x12), ([0x19, 0x12, 0x34], .oraAbsY 0x3412),
   ([0x1D, 0x12, 0x34], .oraAbsX 0x3412), ([0x41, 0x12], .eorIndX 0x12), ([0x45, 0x12], .eorZp 0x12),
   ([0x49, 0x12], .eorImm 0x12), ([0x4D, 0x12, 0x34], .eorAbs 0x3412), ([0x51, 0x12], .eorIndY 0x12),
   ([0x55, 0x12], .eorZpX 0x12), ([0x59, 0x12, 0x34], .eorAbsY 0x3412), ([0x5D, 0x12, 0x34], .eorAbsX 0x3412),
   ([0x24, 0x12], .bitZp 0x12), ([0x2C, 0x12, 0x34], .bitAbs 0x3412)] = true := by decide

theorem test_decode_compare : decodes
  [([0xC1, 0x12], .cmpIndX 0x12), ([0xC5, 0x12], .cmpZp 0x12), ([0xC9, 0x12], .cmpImm 0x12),
   ([0xCD, 0x12, 0x34], .cmpAbs 0x3412), ([0xD1, 0x12], .cmpIndY 0x12), ([0xD5, 0x12], .cmpZpX 0x12),
   ([0xD9, 0x12, 0x34], .cmpAbsY 0x3412), ([0xDD, 0x12, 0x34], .cmpAbsX 0x3412), ([0xE0, 0x12], .cpxImm 0x12),
   ([0xE4, 0x12], .cpxZp 0x12), ([0xEC, 0x12, 0x34], .cpxAbs 0x3412), ([0xC0, 0x12], .cpyImm 0x12),
   ([0xC4, 0x12], .cpyZp 0x12), ([0xCC, 0x12, 0x34], .cpyAbs 0x3412)] = true := by decide

theorem test_decode_inc_dec : decodes
  [([0xE6, 0x12], .incZp 0x12), ([0xEE, 0x12, 0x34], .incAbs 0x3412), ([0xF6, 0x12], .incZpX 0x12),
   ([0xFE, 0x12, 0x34], .incAbsX 0x3412), ([0xC6, 0x12], .decZp 0x12), ([0xCE, 0x12, 0x34], .decAbs 0x3412),
   ([0xD6, 0x12], .decZpX 0x12), ([0xDE, 0x12, 0x34], .decAbsX 0x3412), ([0xE8], .inx), ([0xC8], .iny),
   ([0xCA], .dex), ([0x88], .dey)] = true := by decide

theorem test_decode_shifts : decodes
  [([0x06, 0x12], .aslZp 0x12), ([0x0A], .aslA), ([0x0E, 0x12, 0x34], .aslAbs 0x3412),
   ([0x16, 0x12], .aslZpX 0x12), ([0x1E, 0x12, 0x34], .aslAbsX 0x3412), ([0x46, 0x12], .lsrZp 0x12),
   ([0x4A], .lsrA), ([0x4E, 0x12, 0x34], .lsrAbs 0x3412), ([0x56, 0x12], .lsrZpX 0x12),
   ([0x5E, 0x12, 0x34], .lsrAbsX 0x3412), ([0x26, 0x12], .rolZp 0x12), ([0x2A], .rolA),
   ([0x2E, 0x12, 0x34], .rolAbs 0x3412), ([0x36, 0x12], .rolZpX 0x12), ([0x3E, 0x12, 0x34], .rolAbsX 0x3412),
   ([0x66, 0x12], .rorZp 0x12), ([0x6A], .rorA), ([0x6E, 0x12, 0x34], .rorAbs 0x3412),
   ([0x76, 0x12], .rorZpX 0x12), ([0x7E, 0x12, 0x34], .rorAbsX 0x3412)] = true := by decide

theorem test_decode_branches : decodes
  [([0x90, 0x12], .bcc 0x12), ([0xB0, 0x12], .bcs 0x12), ([0xF0, 0x12], .beq 0x12), ([0xD0, 0x12], .bne 0x12),
   ([0x30, 0x12], .bmi 0x12), ([0x10, 0x12], .bpl 0x12), ([0x50, 0x12], .bvc 0x12), ([0x70, 0x12], .bvs 0x12)] = true := by decide

theorem test_decode_jumps : decodes
  [([0x4C, 0x12, 0x34], .jmpAbs 0x3412), ([0x6C, 0x12, 0x34], .jmpInd 0x3412), ([0x20, 0x12, 0x34], .jsr 0x3412),
   ([0x60], .rts)] = true := by decide

theorem test_decode_stack_system : decodes
  [([0x48], .pha), ([0x68], .pla), ([0x08], .php), ([0x28], .plp), ([0x18], .clc), ([0x38], .sec),
   ([0x58], .cli), ([0x78], .sei), ([0xD8], .cld), ([0xF8], .sed), ([0xB8], .clv), ([0xEA], .nop),
   ([0x00], .brk), ([0x40], .rti)] = true := by decide

theorem test_decode_lax_sax : decodes
  [([0xA3, 0x12], .laxIndX 0x12), ([0xA7, 0x12], .laxZp 0x12), ([0xAF, 0x12, 0x34], .laxAbs 0x3412),
   ([0xB3, 0x12], .laxIndY 0x12), ([0xB7, 0x12], .laxZpY 0x12), ([0xBF, 0x12, 0x34], .laxAbsY 0x3412),
   ([0x83, 0x12], .saxIndX 0x12), ([0x87, 0x12], .saxZp 0x12), ([0x8F, 0x12, 0x34], .saxAbs 0x3412),
   ([0x97, 0x12], .saxZpY 0x12)] = true := by decide

theorem test_decode_dcp_isb : decodes
  [([0xC3, 0x12], .dcpIndX 0x12), ([0xC7, 0x12], .dcpZp 0x12), ([0xCF, 0x12, 0x34], .dcpAbs 0x3412),
   ([0xD3, 0x12], .dcpIndY 0x12), ([0xD7, 0x12], .dcpZpX 0x12), ([0xDB, 0x12, 0x34], .dcpAbsY 0x3412),
   ([0xDF, 0x12, 0x34], .dcpAbsX 0x3412), ([0xE3, 0x12], .isbIndX 0x12), ([0xE7, 0x12], .isbZp 0x12),
   ([0xEF, 0x12, 0x34], .isbAbs 0x3412), ([0xF3, 0x12], .isbIndY 0x12), ([0xF7, 0x12], .isbZpX 0x12),
   ([0xFB, 0x12, 0x34], .isbAbsY 0x3412), ([0xFF, 0x12, 0x34], .isbAbsX 0x3412)] = true := by decide

theorem test_decode_slo_rla : decodes
  [([0x03, 0x12], .sloIndX 0x12), ([0x07, 0x12], .sloZp 0x12), ([0x0F, 0x12, 0x34], .sloAbs 0x3412),
   ([0x13, 0x12], .sloIndY 0x12), ([0x17, 0x12], .sloZpX 0x12), ([0x1B, 0x12, 0x34], .sloAbsY 0x3412),
   ([0x1F, 0x12, 0x34], .sloAbsX 0x3412), ([0x23, 0x12], .rlaIndX 0x12), ([0x27, 0x12], .rlaZp 0x12),
   ([0x2F, 0x12, 0x34], .rlaAbs 0x3412), ([0x33, 0x12], .rlaIndY 0x12), ([0x37, 0x12], .rlaZpX 0x12),
   ([0x3B, 0x12, 0x34], .rlaAbsY 0x3412), ([0x3F, 0x12, 0x34], .rlaAbsX 0x3412)] = true := by decide

theorem test_decode_sre_rra : decodes
  [([0x43, 0x12], .sreIndX 0x12), ([0x47, 0x12], .sreZp 0x12), ([0x4F, 0x12, 0x34], .sreAbs 0x3412),
   ([0x53, 0x12], .sreIndY 0x12), ([0x57, 0x12], .sreZpX 0x12), ([0x5B, 0x12, 0x34], .sreAbsY 0x3412),
   ([0x5F, 0x12, 0x34], .sreAbsX 0x3412), ([0x63, 0x12], .rraIndX 0x12), ([0x67, 0x12], .rraZp 0x12),
   ([0x6F, 0x12, 0x34], .rraAbs 0x3412), ([0x73, 0x12], .rraIndY 0x12), ([0x77, 0x12], .rraZpX 0x12),
   ([0x7B, 0x12, 0x34], .rraAbsY 0x3412), ([0x7F, 0x12, 0x34], .rraAbsX 0x3412)] = true := by decide

theorem test_decode_nop_sbc : decodes
  [([0x04, 0x12], .nopZp04 0x12), ([0x0C, 0x12, 0x34], .nopAbs 0x3412), ([0x14, 0x12], .nopZpX14 0x12),
   ([0x1A], .nop1A), ([0x1C, 0x12, 0x34], .nopAbsX1C 0x3412), ([0x34, 0x12], .nopZpX34 0x12), ([0x3A], .nop3A),
   ([0x3C, 0x12, 0x34], .nopAbsX3C 0x3412), ([0x44, 0x12], .nopZp44 0x12), ([0x54, 0x12], .nopZpX54 0x12),
   ([0x5A], .nop5A), ([0x5C, 0x12, 0x34], .nopAbsX5C 0x3412), ([0x64, 0x12], .nopZp64 0x12),
   ([0x74, 0x12], .nopZpX74 0x12), ([0x7A], .nop7A), ([0x7C, 0x12, 0x34], .nopAbsX7C 0x3412),
   ([0x80, 0x12], .nopImm80 0x12), ([0x82, 0x12], .nopImm82 0x12), ([0x89, 0x12], .nopImm89 0x12),
   ([0xC2, 0x12], .nopImmC2 0x12), ([0xD4, 0x12], .nopZpXD4 0x12), ([0xDA], .nopDA),
   ([0xDC, 0x12, 0x34], .nopAbsXDC 0x3412), ([0xE2, 0x12], .nopImmE2 0x12), ([0xF4, 0x12], .nopZpXF4 0x12),
   ([0xFA], .nopFA), ([0xFC, 0x12, 0x34], .nopAbsXFC 0x3412), ([0xEB, 0x12], .sbcImmEB 0x12)] = true := by decide

theorem test_decode_unsupported : decodes
  [([0x0B, 0x12], .ancImm0B 0x12), ([0x2B, 0x12], .ancImm2B 0x12), ([0x6B, 0x12], .arrImm 0x12),
   ([0x4B, 0x12], .asrImm 0x12), ([0xAB, 0x12], .lxaImm 0x12), ([0x93, 0x12], .shaIndY 0x12),
   ([0x9F, 0x12, 0x34], .shaAbsY 0x3412), ([0xCB, 0x12], .sbxImm 0x12), ([0xBB, 0x12, 0x34], .laeAbsY 0x3412),
   ([0x9E, 0x12, 0x34], .shxAbsY 0x3412), ([0x9C, 0x12, 0x34], .shyAbsX 0x3412), ([0x8B, 0x12], .aneImm 0x12),
   ([0x9B, 0x12, 0x34], .shsAbsY 0x3412), ([0x02], .jam02), ([0x12], .jam12),
   ([0x22], .jam22), ([0x32], .jam32), ([0x42], .jam42), ([0x52], .jam52), ([0x62], .jam62), ([0x72], .jam72),
   ([0x92], .jam92), ([0xB2], .jamB2), ([0xD2], .jamD2), ([0xF2], .jamF2)] = true := by decide

theorem test_table_word_lda : decodeTableWord 16 0x05A9 = some (.ldaImm 0x05) := by decide
theorem test_table_word_operand_above_is_zero : decodeTableWord 8 0x4C = some (.jmpAbs 0x0000) := by decide

/-! ### One iteration -/

/-- Bytes at consecutive addresses, in the canonical form of a store. -/
def cells : Nat → List Byte → Memory
  | _, [] => []
  | k, v :: rest => if v = 0x00 then cells (k + 1) rest else (k, v) :: cells (k + 1) rest

/-- A tick in which the environment does nothing. -/
def quiet : TickInput := { raiseNmi := false, irqLevel := false, chrReads := [] }

/-- The machine of 95_test_vectors.md section 0: code at 0x8000, vectors 0x9000, 0x8000, 0xA000, a quiet environment. -/
def probe (code : List Byte) : State :=
  { State.reset with
    pc := 0x8000
    cart := { Cartridge.empty with prg := cells 0 code ++ cells 0x7FFA [0x00, 0x90, 0x00, 0x80, 0x00, 0xA0] }
    tickInputs := [quiet, quiet] }

/-- One iteration completes and leaves a machine that passes a check. -/
def after (s : State) (check : State → Bool) : Bool :=
  match step s with
  | .next t => check t
  | .fault _ => false
  | .refused _ => false

/-- A check of A, P and the cycles. -/
def isAP (a p : Byte) (cyc : Nat) (t : State) : Bool := decide (t.a = a ∧ t.p = p ∧ t.cycles = cyc)

/-- A check of one RAM byte, P and the cycles. -/
def isMP (k : Nat) (v p : Byte) (cyc : Nat) (t : State) : Bool := decide (t.ram.read k = v ∧ t.p = p ∧ t.cycles = cyc)

/-- A check of pc, P and the cycles. -/
def isPc (pc : Word) (p : Byte) (cyc : Nat) (t : State) : Bool := decide (t.pc = pc ∧ t.p = p ∧ t.cycles = cyc)

-- section 2.1: loads, stores, transfers and the addressing modes
theorem test_lda_zpx_wraps :
    after ({ probe [0xB5, 0xFF] with x := 0x01, ram := [(0x0000, 0x44), (0x0100, 0x99)] })
      (isAP 0x44 0x24 4) = true := by decide
theorem test_lda_indy_crosses :
    after ({ probe [0xB1, 0x10] with y := 0x01, ram := [(0x10, 0xFF), (0x11, 0x02), (0x300, 0x99)] })
      (isAP 0x99 0xA4 6) = true := by decide
theorem test_lda_indx_pointer_wraps :
    after ({ probe [0xA1, 0xFE] with x := 0x01, ram := [(0x0, 0x02), (0xFF, 0x34), (0x234, 0x5B)] })
      (isAP 0x5B 0x24 6) = true := by decide
theorem test_ldx_zpy_wraps :
    after ({ probe [0xB6, 0xFF] with y := 0x02, ram := [(0x1, 0x66)] })
      (fun t => decide (t.x = 0x66 ∧ t.cycles = 4)) = true := by decide
theorem test_ldy_imm_zero :
    after ({ probe [0xA0, 0x00] with y := 0x55 })
      (fun t => decide (t.y = 0x00 ∧ t.p = 0x26)) = true := by decide
theorem test_sta_absx_no_penalty :
    after ({ probe [0x9D, 0xFF, 0x02] with a := 0x42, x := 0x01 })
      (isMP 0x300 0x42 0x24 5) = true := by decide
theorem test_stx_zpy_wraps :
    after ({ probe [0x96, 0xFF] with x := 0x07, y := 0x02 })
      (isMP 0x1 0x07 0x24 4) = true := by decide
theorem test_sty_zpx_wraps :
    after ({ probe [0x94, 0xFF] with y := 0xFF, x := 0x01 })
      (isMP 0x0 0xFF 0x24 4) = true := by decide
theorem test_tax :
    after ({ probe [0xAA] with a := 0x80 })
      (fun t => decide (t.x = 0x80 ∧ t.p = 0xA4)) = true := by decide
theorem test_tay :
    after ({ probe [0xA8] with a := 0x00, y := 0x01 })
      (fun t => decide (t.y = 0x00 ∧ t.p = 0x26)) = true := by decide
theorem test_txa :
    after ({ probe [0x8A] with x := 0x7F })
      (fun t => decide (t.a = 0x7F ∧ t.p = 0x24)) = true := by decide
theorem test_tya :
    after ({ probe [0x98] with y := 0x80 })
      (fun t => decide (t.a = 0x80 ∧ t.p = 0xA4)) = true := by decide
theorem test_tsx : after (probe [0xBA]) (fun t => decide (t.x = 0xFD ∧ t.p = 0xA4)) = true := by decide
theorem test_txs :
    after ({ probe [0x9A] with x := 0x80 })
      (fun t => decide (t.sp = 0x80 ∧ t.p = 0x24)) = true := by decide

-- section 2.2: arithmetic and logic
theorem test_adc_overflow : after ({ probe [0x69, 0x01] with a := 0x7F }) (isAP 0x80 0xE4 2) = true := by decide
theorem test_adc_carry_decimal_ignored :
    after ({ probe [0x69, 0x01] with a := 0x09, p := 0x2C })
      (isAP 0x0A 0x2C 2) = true := by decide
theorem test_sbc_overflow :
    after ({ probe [0xE9, 0x01] with a := 0x80, p := 0x25 })
      (isAP 0x7F 0x65 2) = true := by decide
theorem test_sbc_borrow_in : after ({ probe [0xE9, 0x01] with a := 0x10 }) (isAP 0x0E 0x25 2) = true := by decide
theorem test_and : after ({ probe [0x29, 0x0F] with a := 0xF5 }) (isAP 0x05 0x24 2) = true := by decide
theorem test_ora : after ({ probe [0x09, 0x80] with a := 0x01 }) (isAP 0x81 0xA4 2) = true := by decide
theorem test_eor : after ({ probe [0x49, 0xFF] with a := 0xFF }) (isAP 0x00 0x26 2) = true := by decide
theorem test_bit_flags_of_memory :
    after ({ probe [0x24, 0x10] with a := 0x01, ram := [(0x10, 0xC0)] })
      (isAP 0x01 0xE6 3) = true := by decide
theorem test_cmp_less : after ({ probe [0xC9, 0x20] with a := 0x10 }) (isAP 0x10 0xA4 2) = true := by decide
theorem test_cmp_no_overflow : after ({ probe [0xC9, 0x01] with a := 0x80 }) (isAP 0x80 0x25 2) = true := by decide
theorem test_cpx :
    after ({ probe [0xE0, 0x07] with x := 0x06 })
      (fun t => decide (t.x = 0x06 ∧ t.p = 0xA4)) = true := by decide
theorem test_cpy :
    after ({ probe [0xC0, 0x80] with y := 0x7F })
      (fun t => decide (t.y = 0x7F ∧ t.p = 0xA4)) = true := by decide
theorem test_inc_wraps_without_carry :
    after ({ probe [0xE6, 0x10] with ram := [(0x10, 0xFF)] })
      (isMP 0x10 0x00 0x26 5) = true := by decide
theorem test_inc_absx_no_penalty :
    after ({ probe [0xFE, 0xFF, 0x02] with x := 0x01, ram := [(0x300, 0x41)] })
      (isMP 0x300 0x42 0x24 7) = true := by decide
theorem test_dec_wraps : after (probe [0xC6, 0x10]) (isMP 0x10 0xFF 0xA4 5) = true := by decide
theorem test_inx :
    after ({ probe [0xE8] with x := 0xFF })
      (fun t => decide (t.x = 0x00 ∧ t.p = 0x26)) = true := by decide
theorem test_iny :
    after ({ probe [0xC8] with y := 0xFF })
      (fun t => decide (t.y = 0x00 ∧ t.p = 0x26)) = true := by decide
theorem test_dex : after (probe [0xCA]) (fun t => decide (t.x = 0xFF ∧ t.p = 0xA4)) = true := by decide
theorem test_dey :
    after ({ probe [0x88] with y := 0x81 })
      (fun t => decide (t.y = 0x80 ∧ t.p = 0xA4)) = true := by decide

-- section 2.3: shifts and rotates
theorem test_asl_a : after ({ probe [0x0A] with a := 0x81 }) (isAP 0x02 0x25 2) = true := by decide
theorem test_asl_memory :
    after ({ probe [0x06, 0x10] with ram := [(0x10, 0xC0)] })
      (isMP 0x10 0x80 0xA5 5) = true := by decide
theorem test_lsr_a : after ({ probe [0x4A] with a := 0xFF, p := 0xA4 }) (isAP 0x7F 0x25 2) = true := by decide
theorem test_lsr_memory :
    after ({ probe [0x4E, 0x00, 0x02] with ram := [(0x200, 0x03)] })
      (isMP 0x200 0x01 0x25 6) = true := by decide
theorem test_rol_a : after ({ probe [0x2A] with a := 0x40, p := 0x25 }) (isAP 0x81 0xA4 2) = true := by decide
theorem test_rol_memory :
    after ({ probe [0x36, 0x0F] with x := 0x01, p := 0x25, ram := [(0x10, 0x55)] })
      (isMP 0x10 0xAB 0xA4 6) = true := by decide
theorem test_ror_a : after ({ probe [0x6A] with a := 0x01, p := 0x25 }) (isAP 0x80 0xA5 2) = true := by decide
theorem test_ror_memory :
    after ({ probe [0x7E, 0xFF, 0x02] with x := 0x01, p := 0x25, ram := [(0x300, 0x02)] })
      (isMP 0x300 0x81 0xA4 7) = true := by decide

-- section 2.4: branches, jumps, subroutines
theorem test_bne_taken : after (probe [0xD0, 0x02]) (isPc 0x8004 0x24 3) = true := by decide
theorem test_bne_not_taken : after ({ probe [0xD0, 0x02] with p := 0x26 }) (isPc 0x8002 0x26 2) = true := by decide
theorem test_beq_to_itself : after ({ probe [0xF0, 0xFE] with p := 0x26 }) (isPc 0x8000 0x26 3) = true := by decide
theorem test_bcc_crosses :
    after ({ probe [] with pc := 0x80FD, cart := { Cartridge.empty with prg := cells 0xfd [0x90, 0x01] } })
      (isPc 0x8100 0x24 4) = true := by decide
theorem test_bcs_backwards : after ({ probe [0xB0, 0xFD] with p := 0x25 }) (isPc 0x7FFF 0x25 4) = true := by decide
theorem test_bmi : after ({ probe [0x30, 0x7F] with p := 0xA4 }) (isPc 0x8081 0xA4 3) = true := by decide
theorem test_bpl :
    after ({ probe [] with pc := 0x8080, cart := { Cartridge.empty with prg := cells 0x80 [0x10, 0x80] } })
      (isPc 0x8002 0x24 3) = true := by decide
theorem test_bvc : after (probe [0x50, 0x10]) (isPc 0x8012 0x24 3) = true := by decide
theorem test_bvs : after ({ probe [0x70, 0x10] with p := 0x64 }) (isPc 0x8012 0x64 3) = true := by decide
theorem test_jmp_abs : after (probe [0x4C, 0x34, 0x92]) (isPc 0x9234 0x24 3) = true := by decide
theorem test_jmp_ind_page_wrap :
    after ({ probe [0x6C, 0xFF, 0x02] with ram := [(0x200, 0x92), (0x2FF, 0x34), (0x300, 0x55)] })
      (isPc 0x9234 0x24 5) = true := by decide
theorem test_jsr_wraps :
    after ({ probe [0x20, 0x00, 0x90] with sp := 0x00 })
      (fun t => decide (t.ram.read 0x100 = 0x80 ∧ t.ram.read 0x1FF = 0x02 ∧ t.sp = 0xFE ∧ t.pc = 0x9000)) = true := by decide
theorem test_rts_wraps :
    after ({ probe [0x60] with sp := 0xFF, ram := [(0x100, 0x33), (0x101, 0x81)] })
      (fun t => decide (t.pc = 0x8134 ∧ t.sp = 0x01 ∧ t.cycles = 6)) = true := by decide

-- section 2.5: undocumented instructions
theorem test_lax :
    after ({ probe [0xB3, 0x10] with y := 0x01, ram := [(0x10, 0xFF), (0x11, 0x02), (0x300, 0x33)] })
      (fun t => decide (t.a = 0x33 ∧ t.x = 0x33 ∧ t.cycles = 6)) = true := by decide
theorem test_sax_writes_no_flag :
    after ({ probe [0x87, 0x10] with a := 0xF0, x := 0x0F })
      (isMP 0x10 0x00 0x24 3) = true := by decide
theorem test_dcp :
    after ({ probe [0xC7, 0x10] with a := 0x10, ram := [(0x10, 0x00)] })
      (isMP 0x10 0xFF 0x24 5) = true := by decide
theorem test_isb : after ({ probe [0xE7, 0x10] with a := 0x80, p := 0x25 }) (isAP 0x7F 0x65 5) = true := by decide
theorem test_slo :
    after ({ probe [0x07, 0x10] with a := 0x01, ram := [(0x10, 0x81)] })
      (isAP 0x03 0x25 5) = true := by decide
theorem test_rla :
    after ({ probe [0x27, 0x10] with a := 0x80, ram := [(0x10, 0xC0)] })
      (isAP 0x80 0xA5 5) = true := by decide
theorem test_sre :
    after ({ probe [0x47, 0x10] with a := 0xFF, ram := [(0x10, 0x02)] })
      (isAP 0xFE 0xA4 5) = true := by decide
theorem test_rra_carry_from_shift :
    after ({ probe [0x67, 0x10] with a := 0x10, ram := [(0x10, 0x01)] })
      (isAP 0x11 0x24 5) = true := by decide
theorem test_rra_carry_into_shift :
    after ({ probe [0x67, 0x10] with a := 0x7F, p := 0x25, ram := [(0x10, 0x02)] })
      (isMP 0x10 0x81 0x27 5) = true := by decide
theorem test_nop_read_crosses :
    after ({ probe [0x1C, 0xFF, 0x02] with x := 0x01 })
      (isPc 0x8003 0x24 5) = true := by decide
theorem test_sbc_eb :
    after ({ probe [0xEB, 0x01] with a := 0x80, p := 0x25 })
      (isAP 0x7F 0x65 2) = true := by decide
theorem test_nop_reads_a_device :
    after ({ probe [0x0C, 0x02, 0x20] with devAnswers := [0x5A] })
      (fun t => decide (t.events = [.tick 4, .devRead .ppu 2 0x5A] ∧ t.a = 0x00)) = true := by decide

-- section 2.6: stack, flag and system instructions
theorem test_pha_wraps :
    after ({ probe [0x48] with a := 0x42, sp := 0x00 })
      (fun t => decide (t.ram.read 0x100 = 0x42 ∧ t.sp = 0xFF ∧ t.cycles = 3)) = true := by decide
theorem test_pla :
    after ({ probe [0x68] with ram := [(0x1FE, 0x80)] })
      (fun t => decide (t.a = 0x80 ∧ t.p = 0xA4 ∧ t.sp = 0xFE ∧ t.cycles = 4)) = true := by decide
theorem test_php : after ({ probe [0x08] with p := 0xC3 }) (isMP 0x1FD 0xF3 0xC3 3) = true := by decide
theorem test_plp :
    after ({ probe [0x28] with ram := [(0x1FE, 0xFF)] })
      (fun t => decide (t.p = 0xEF ∧ t.sp = 0xFE)) = true := by decide
theorem test_clc : after ({ probe [0x18] with p := 0x25 }) (isPc 0x8001 0x24 2) = true := by decide
theorem test_sec : after ({ probe [0x38] with p := 0x24 }) (isPc 0x8001 0x25 2) = true := by decide
theorem test_cli : after ({ probe [0x58] with p := 0x24 }) (isPc 0x8001 0x20 2) = true := by decide
theorem test_sei : after ({ probe [0x78] with p := 0x20 }) (isPc 0x8001 0x24 2) = true := by decide
theorem test_cld : after ({ probe [0xD8] with p := 0x2C }) (isPc 0x8001 0x24 2) = true := by decide
theorem test_sed : after ({ probe [0xF8] with p := 0x24 }) (isPc 0x8001 0x2C 2) = true := by decide
theorem test_clv : after ({ probe [0xB8] with p := 0x64 }) (isPc 0x8001 0x24 2) = true := by decide
theorem test_nop : after (probe [0xEA]) (isPc 0x8001 0x24 2) = true := by decide
theorem test_brk :
    after ({ probe [0x00] with p := 0xE3 })
      (fun t => decide (t.ram = [(0x1FB, 0xE3), (0x1FC, 0x02), (0x1FD, 0x80)] ∧ t.p = 0xF7 ∧ t.sp = 0xFA ∧ t.pc = 0xA000 ∧
        t.cycles = 7)) = true := by decide
theorem test_rti_wraps :
    after ({ probe [0x40] with ram := [(0x100, 0x92), (0x1FE, 0xCF), (0x1FF, 0x34)] })
      (fun t => decide (t.p = 0xEF ∧ t.pc = 0x9234 ∧ t.sp = 0x00 ∧ t.cycles = 6)) = true := by decide

-- section 2.7: unsupported instructions
theorem test_anc_faults : step (probe [0x0B, 0x80]) = .fault (.unsupportedInstruction 0x0B 0x8000
    { probe [0x0B, 0x80] with pc := 0x8001, status := .faulted (.unsupportedInstruction 0x0B 0x8000) }) := rfl
theorem test_shy_faults : step (probe [0x9C, 0x00, 0x02]) = .fault (.unsupportedInstruction 0x9C 0x8000
    { probe [0x9C, 0x00, 0x02] with pc := 0x8001, status := .faulted (.unsupportedInstruction 0x9C 0x8000) }) := rfl
theorem test_jam_faults : step (probe [0x02]) = .fault (.unsupportedInstruction 0x02 0x8000
    { probe [0x02] with pc := 0x8001, status := .faulted (.unsupportedInstruction 0x02 0x8000) }) := rfl

/-! ### Interrupts (section 2.8) -/

/-- The probe with a handler byte at 0x9000 and at 0xA000. -/
def handled (code : List Byte) (nmi irq : Byte) : State :=
  { probe code with
    cart := { Cartridge.empty with
      prg := cells 0 code ++ [(0x1000, nmi), (0x2000, irq)] ++ cells 0x7FFA [0x00, 0x90, 0x00, 0x80, 0x00, 0xA0] } }

theorem test_nmi_then_rti : after { handled [0xA9, 0x05, 0xAA] 0x40 0x40 with nmiPending := true }
    (fun t => decide (t.ram = [(0x1FB, 0x24), (0x1FD, 0x80)] ∧ t.p = 0x24 ∧ t.pc = 0x8000 ∧ t.sp = 0xFD ∧ t.cycles = 8 ∧
      t.events = [.tick 6, .tick 2])) = true := by decide
theorem test_nmi_pushes_a_cleaned_status : after { handled [] 0xE8 0x40 with nmiPending := true, p := 0xF7 }
    (fun t => decide (t.ram.read 0x1FB = 0xE7 ∧ t.x = 0x01 ∧ t.p = 0x75 ∧ t.pc = 0x9001 ∧ t.cycles = 4)) = true := by decide
theorem test_irq_masked_until_cli :
    after { handled [0x58] 0x40 0xE8 with irqPending := true, tickInputs := [{ quiet with irqLevel := true }] }
      (fun t => decide (t.p = 0x20 ∧ t.pc = 0x8001 ∧ t.irqPending = true ∧ t.cycles = 2)) = true := by decide
theorem test_irq_entry : after { handled [] 0x40 0xE8 with irqPending := true, p := 0x20, pc := 0x8001 }
    (fun t => decide (t.ram.read 0x1FB = 0x20 ∧ t.ram.read 0x1FC = 0x01 ∧ t.x = 0x01 ∧ t.p = 0x34 ∧ t.pc = 0xA001 ∧
      t.cycles = 4)) = true := by decide
theorem test_nmi_before_irq : after { handled [] 0xEA 0xEA with nmiPending := true, irqPending := true, p := 0x20 }
    (fun t => decide (t.pc = 0x9001 ∧ t.p = 0x24 ∧ t.ram.read 0x1FB = 0x20 ∧ t.cycles = 4)) = true := by decide
theorem test_tick_raises_nmi : after { probe [0xEA] with tickInputs := [{ quiet with raiseNmi := true }] }
    (fun t => t.nmiPending) = true := by decide

/-! ### Reset, the bus and the mappers (1.4, 1.7, 2.9, 2.10) -/

theorem test_power_on_is_reset : powerOn 0 Cartridge.empty [] = .next State.reset := rfl
theorem test_reset_loads_the_vector : (hostReset { probe [] with a := 0x11, sp := 0x00 }).pc = 0x8000 := by decide
theorem test_first_step_runs_the_placed_word :
    step (State.reset.withFetchWord 16 0x05A9) ≠ step State.reset ∧
    after (State.reset.withFetchWord 16 0x05A9) (fun t => decide (t.a = 0x05 ∧ t.pc = 0x0002)) = true := by
  refine ⟨?_, by decide⟩
  intro h
  have k : after (State.reset.withFetchWord 16 0x05A9) (fun t => decide (t.a = 0x05)) =
    after State.reset (fun t => decide (t.a = 0x05)) := by unfold after; rw [h]
  exact absurd k (by decide)
theorem test_store_reaches_the_mirror : after { probe [0x8D, 0x01, 0x08] with a := 0x55 } (isMP 0x001 0x55 0x24 4) = true := by
  decide
theorem test_device_write : after { probe [0x8D, 0x09, 0x20] with a := 0x55 }
    (fun t => decide (t.events = [.tick 4, .devWrite .ppu 1 0x55])) = true := by decide
theorem test_device_read : after { probe [0xAC, 0xFA, 0x3F] with devAnswers := [0x9C] }
    (fun t => decide (t.y = 0x9C ∧ t.events = [.tick 4, .devRead .ppu 2 0x9C])) = true := by decide
theorem test_rom_is_not_written : after { probe [0x8D, 0x00, 0x80] with a := 0x42 }
    (fun t => decide (readPrg t 0x8000 = 0x8D ∧ t.events = [.tick 4])) = true := by decide
theorem test_fetch_wraps_at_the_top :
    after { probe [] with pc := 0xFFFF, ram := [(0, 0x07)], cart := { Cartridge.empty with prg := [(0x7FFF, 0xA9)] } }
      (fun t => decide (t.a = 0x07 ∧ t.pc = 0x0001 ∧ t.cycles = 2)) = true := by decide
theorem test_stack_wraps : (push 0x42 { probe [] with sp := 0x00 }).sp = 0xFF ∧
    (pop (push 0x42 { probe [] with sp := 0x00 })).1 = 0x42 := by decide
theorem test_direct_mirror :
    readPrg { probe [] with cart := { Cartridge.empty with prg := [(0, 0x5A)], prgLen := 16384 } } 0xC000 = 0x5A := by decide

/-- The shift-register mapper's registers at power-on (10_state.md R36). -/
def shiftAtLoad : ShiftRegs := { shift := 0, count := 0, control := 0x0C, chr0 := 0, chr1 := 0, prg := 0 }

theorem test_shift_mapper_M1a :
    shiftWrites shiftAtLoad [(0x8000, 0x01), (0x8000, 0x01), (0x8000, 0x01), (0x8000, 0x80), (0xA000, 0x01), (0xA000, 0x00),
      (0xA000, 0x01), (0xA000, 0x00), (0xE000, 0x00)] = { shiftAtLoad with prg := 0x05 } := by decide

/-- A shift-register machine of 4 banks of 16 KB, the first byte of bank b being b, except that the last bank's is 0xA9;
8 banks of 4 KB of CHR, the first byte of bank c being 10 + c (M1-a, M1-b). -/
def shiftMachine (r : ShiftRegs) : State :=
  { probe [] with
    mapper := .shiftRegister r
    cart := { Cartridge.empty with
      prg := [(16384, 0x01), (32768, 0x02), (49152, 0xA9)], prgLen := 65536, chrLen := 32768
      chr := [(0, 0x10), (4096, 0x11), (8192, 0x12), (12288, 0x13), (16384, 0x14), (20480, 0x15), (24576, 0x16),
        (28672, 0x17)] } }

/-- The events of the bus's accesses cover a mapper's register port (70 R365). -/
theorem test_mapper_port_write_is_an_event :
    (memWrite 0xE000 0x01 (shiftMachine shiftAtLoad)).events = [.mapperWrite 0xE000 0x01] ∧
    (memWrite 0xE000 0x01 (shiftMachine shiftAtLoad)).mapper =
      .shiftRegister { shiftAtLoad with shift := 1, count := 1 } := by decide

theorem test_shift_mapper_mode3 : readPrg (shiftMachine { shiftAtLoad with prg := 0x05 }) 0x8000 = 0x01 ∧
    readPrg (shiftMachine { shiftAtLoad with prg := 0x05 }) 0xC000 = 0xA9 := by decide
theorem test_shift_mapper_M1b_control :
    shiftWrites { shiftAtLoad with prg := 0x05 } [(0x8000, 0x00), (0x8000, 0x01), (0x8000, 0x00), (0x8000, 0x00),
      (0x9FFF, 0x01)] = { shiftAtLoad with prg := 0x05, control := 0x12 } := by decide
theorem test_shift_mapper_M1b_mode0 :
    let s := shiftMachine { shiftAtLoad with prg := 0x05, control := 0x12, chr0 := 0x03, chr1 := 0x04 }
    mirroring s = .vertical ∧ readPrg s 0x8000 = 0x00 ∧ readPrg s 0xC000 = 0x01 ∧ (readChr s 0x0000 false).1 = 0x13 ∧
      (readChr s 0x1000 false).1 = 0x14 := by decide
theorem test_shift_mapper_M1b_mode2 :
    let s := shiftMachine { shiftAtLoad with prg := 0x05, control := 0x08, chr0 := 0x03, chr1 := 0x04 }
    mirroring s = .singleLower ∧ readPrg s 0x8000 = 0x00 ∧ readPrg s 0xC000 = 0x01 ∧ (readChr s 0x0000 false).1 = 0x12 ∧
      (readChr s 0x1000 false).1 = 0x13 := by decide

/-- The latch mappers' registers after the writes of M9. -/
def latchRegs : LatchRegs :=
  { prg := 0x05, chrFd0 := 0x02, chrFe0 := 0x03, chrFd1 := 0x04, chrFe1 := 0x05, mirror := 1, latch0 := .fe, latch1 := .fe }

/-- A latch machine of 16 banks of 8 KB, the first byte of bank k being 80 + k, and 6 banks of CHR, the first byte of bank
c being c; the byte at 0x0FD8 of banks 2 and 3 is the bank's number too (M9). -/
def latchMachine (m : Mapper) : State :=
  { probe [] with
    mapper := m
    cart := { Cartridge.empty with
      prg := [(0, 0x80), (8192, 0x81), (40960, 0x85), (81920, 0x8A), (90112, 0x8B), (106496, 0x8D), (114688, 0x8E),
        (122880, 0x8F)]
      prgLen := 131072, chrLen := 131072
      chr := [(4096, 0x01), (8192, 0x02), (12248, 0x02), (12288, 0x03), (16344, 0x03), (16384, 0x04), (20480, 0x05)] } }

theorem test_latch_writes :
    [((0xA000 : Word), (0x05 : Byte)), (0xB000, 0x02), (0xC000, 0x03), (0xD000, 0x04), (0xE000, 0x25), (0xF000, 0x01)].foldl
      (fun r w => latchWrite r w.1 w.2) { latchRegs with prg := 0, chrFd0 := 0, chrFe0 := 0, chrFd1 := 0, chrFe1 := 0, mirror := 0 }
    = latchRegs := by decide
theorem test_latch_prg : [(0x8000 : Word), 0xA000, 0xC000, 0xE000].map (readPrg (latchMachine (.latchA latchRegs))) =
      [0x85, 0x8D, 0x8E, 0x8F] ∧
    [(0x8000 : Word), 0xA000, 0xC000, 0xE000].map (readPrg (latchMachine (.latchB latchRegs))) = [0x8A, 0x8B, 0x8E, 0x8F] := by
  decide
theorem test_latch_old_bank_then_new : mirroring (latchMachine (.latchA latchRegs)) = .horizontal ∧
    (readChr (latchMachine (.latchA latchRegs)) 0x0FD8 false).1 = 0x03 ∧
    (readChr (latchMachine (.latchA latchRegs)) 0x0FD8 false).2.mapper = .latchA { latchRegs with latch0 := .fd } ∧
    (readChr (readChr (latchMachine (.latchA latchRegs)) 0x0FD8 false).2 0x0000 false).1 = 0x02 := by decide
theorem test_latch_single_address_or_range :
    (readChr (latchMachine (.latchA latchRegs)) 0x0FD9 false).2.mapper = .latchA latchRegs ∧
    (readChr (latchMachine (.latchB latchRegs)) 0x0FD9 false).2.mapper = .latchB { latchRegs with latch0 := .fd } ∧
    (readChr (latchMachine (.latchA latchRegs)) 0x1FDF false).2.mapper = .latchA { latchRegs with latch1 := .fd } := by decide
theorem test_latch_read_only : (readChr (latchMachine (.latchB latchRegs)) 0x0FD8 true).1 = 0x03 ∧
    (readChr (latchMachine (.latchB latchRegs)) 0x0FD8 true).2 = latchMachine (.latchB latchRegs) := by decide

/-! ### Witnesses: for every statement with hypotheses, a machine and operands that meet them -/

theorem test_witness_EncodeThenDecodeGivesInstr : (Instr.ldaAbsX 0xFFFF).wf = true ∧ Instr.jam02.wf = true := by decide

theorem test_witness_StepRunsDecodedInstruction : ∃ s d b u, s.status = .running ∧ s.nmiPending = true ∧
    readBytes (2 + 1) (pollInterrupts s).pc (pollInterrupts s) = (0xAD :: [0x00, 0x80], u) ∧
    decode (0xAD :: [0x00, 0x80]) = .ok (.ldaAbs 0x8000, []) ∧ (Instr.ldaAbs 0x8000).wf = true ∧
    lookup 0xAD = some (d, b) ∧ d.mnemonic.unsupported = false :=
  ⟨{ probe [0xAD, 0x00, 0x80] with
      nmiPending := true
      cart := { Cartridge.empty with prg := cells 0 [0xAD, 0x00, 0x80] ++ cells 0x7FFA [0x00, 0x80, 0x00, 0x80] } },
    _, _, _, rfl, rfl, rfl, rfl, rfl, rfl, rfl⟩

theorem test_witness_StepRunsDecodedInstruction_unsupported : ∃ s d b u, s.status = .running ∧
    readBytes (2 + 1) (pollInterrupts s).pc (pollInterrupts s) = (0x9C :: [0x00, 0x02], u) ∧
    decode (0x9C :: [0x00, 0x02]) = .ok (.shyAbsX 0x0200, []) ∧ (Instr.shyAbsX 0x0200).wf = true ∧
    lookup 0x9C = some (d, b) ∧ d.mnemonic.unsupported = true :=
  ⟨probe [0x9C, 0x00, 0x02], _, _, _, rfl, rfl, rfl, rfl, rfl, rfl⟩
theorem test_witness_StepRunsDecodedInstruction_jam : ∃ s d b u, s.status = .running ∧
    readBytes (0 + 1) (pollInterrupts s).pc (pollInterrupts s) = (0x02 :: [], u) ∧
    decode (0x02 :: []) = .ok (.jam02, []) ∧ Instr.jam02.wf = true ∧ lookup 0x02 = some (d, b) ∧
    d.mnemonic.unsupported = true :=
  ⟨probe [0x02], _, _, _, rfl, rfl, rfl, rfl, rfl, rfl⟩

theorem test_witness_StepCompletesOrFaultsUnsupported :
    (probe [0xEA]).status = .running ∧ (∃ t, step (probe [0xEA]) = .next t) ∧
    (probe [0x02]).status = .running ∧ (∃ f, step (probe [0x02]) = .fault f) :=
  ⟨rfl, ⟨_, rfl⟩, rfl, ⟨_, rfl⟩⟩

theorem test_witness_FaultedMachineTakesNoIteration :
    ({ probe [] with status := .faulted (.unsupportedInstruction 0x02 0x8000) } : State).status =
      .faulted (.unsupportedInstruction 0x02 0x8000) ∧
    ({ probe [] with status := .faulted (.resolverContract .implied 0x8000) } : State).status =
      .faulted (.resolverContract .implied 0x8000) := ⟨rfl, rfl⟩

theorem test_witness_ResolverContractNeverRaised : State.reset.status = .running := rfl

/-- The hypotheses of CyclesOfAnIteration, on an instruction of a penalty class. -/
def CyclesMet (s : State) (c : Penalty) (x : Nat) : Prop :=
  ∃ i d u v t, s.status = .running ∧ fetch (pollInterrupts s) = .instr i d u ∧ exec i u = .next v ∧ step s = .next t ∧
    d.penalty = c ∧ v.extra = x

theorem test_witness_CyclesOfAnIteration_none : CyclesMet { probe [0x9D, 0xFF, 0x02] with x := 0x01 } .none 1 :=
  ⟨_, _, _, _, _, rfl, rfl, rfl, rfl, rfl, rfl⟩
theorem test_witness_CyclesOfAnIteration_page :
    CyclesMet { probe [0xBD, 0xFF, 0x02] with x := 0x01, irqPending := true } .page 1 :=
  ⟨_, _, _, _, _, rfl, rfl, rfl, rfl, rfl, rfl⟩
theorem test_witness_CyclesOfAnIteration_branch : CyclesMet (probe [0xD0, 0x80]) .branch 2 :=
  ⟨_, _, _, _, _, rfl, rfl, rfl, rfl, rfl, rfl⟩
theorem test_witness_CyclesOfAnIteration_nmi : CyclesMet { handled [] 0x40 0x40 with nmiPending := true } .none 0 :=
  ⟨_, _, _, _, _, rfl, rfl, rfl, rfl, rfl, rfl⟩
theorem test_witness_CyclesOfAnIteration_irq :
    CyclesMet { handled [] 0x40 0xE8 with irqPending := true, p := 0x20 } .none 0 :=
  ⟨_, _, _, _, _, rfl, rfl, rfl, rfl, rfl, rfl⟩

theorem test_witness_StepKeepsSoundMachine : (probe [0x91, 0x00]).Inv ∧ ∃ t, step (probe [0x91, 0x00]) = .next t :=
  ⟨⟨rfl, rfl, by decide, by decide⟩, _, rfl⟩

theorem test_witness_StepNeverChangesTheCartridge :
    (∃ t, step (probe [0x8D, 0x00, 0x80]) = .next t) ∧ (∃ t, step (shiftMachine shiftAtLoad) = .next t) ∧
    (∃ t, step { latchMachine (.latchA latchRegs) with pc := 0x0000 } = .next t) ∧
    (∃ t, step { latchMachine (.latchB latchRegs) with pc := 0x0000 } = .next t) :=
  ⟨⟨_, rfl⟩, ⟨_, rfl⟩, ⟨_, rfl⟩, ⟨_, rfl⟩⟩

theorem test_witness_PowerOnLoadsOrRefuses_accepted :
    (∃ t, powerOn 0 { Cartridge.empty with prgLen := 16384 } [(2047, 0x01)] = .next t) ∧
    (∃ t, powerOn 1 { Cartridge.empty with prgLen := 16384, headerMirroring := .vertical } [] = .next t) ∧
    (∃ t, powerOn 9 { Cartridge.empty with prgLen := 8192, chrLen := 4096 } [] = .next t) ∧
    (∃ t, powerOn 10 { Cartridge.empty with prgLen := 16384, chrIsRam := true } [] = .next t) :=
  ⟨⟨_, rfl⟩, ⟨_, rfl⟩, ⟨_, rfl⟩, ⟨_, rfl⟩⟩
theorem test_witness_PowerOnLoadsOrRefuses_legal :
    LegalCartridge 0 { Cartridge.empty with prgLen := 16384 } ∧ Memory.wf 2048 [(2047, 0x01)] ∧
    LegalCartridge 1 { Cartridge.empty with prgLen := 16384, headerMirroring := .vertical } ∧
    LegalCartridge 9 { Cartridge.empty with prgLen := 8192, chrLen := 4096 } ∧
    LegalCartridge 10 { Cartridge.empty with prgLen := 16384, chrIsRam := true } ∧ Memory.wf 2048 [] ∧
    ¬LegalCartridge 9 { Cartridge.empty with chrLen := 0 } ∧ ¬Memory.wf 2048 [(2048, 0x01)] := by
  refine ⟨?_, ?_, ?_, ?_, ?_, ?_, ?_, ?_⟩ <;> (try unfold LegalCartridge) <;> decide
theorem test_witness_PowerOnLoadsOrRefuses_mapper :
    (∃ t, powerOn 1 { Cartridge.empty with prgLen := 16384 } [] = .next t ∧
      t.mapper = .shiftRegister { shift := 0, count := 0, control := 0x0C, chr0 := 0, chr1 := 0, prg := 0 }) ∧
    (∃ t, powerOn 9 { Cartridge.empty with prgLen := 8192 } [] = .next t ∧
      t.mapper = .latchA
        { prg := 0, chrFd0 := 0, chrFe0 := 0, chrFd1 := 0, chrFe1 := 0, mirror := 0, latch0 := .fe, latch1 := .fe }) :=
  ⟨⟨_, rfl, rfl⟩, ⟨_, rfl, rfl⟩⟩
theorem test_witness_PowerOnLoadsOrRefuses_refused :
    powerOn 2 Cartridge.empty [] = .refused (.unknownMapper 2) ∧
    powerOn 0 { Cartridge.empty with prgLen := 49152 } [] = .refused .malformedCartridge ∧
    powerOn 1 { Cartridge.empty with prgLen := 24576 } [] = .refused .malformedCartridge ∧
    powerOn 9 { Cartridge.empty with chrLen := 0 } [] = .refused .malformedCartridge ∧
    powerOn 10 { Cartridge.empty with headerMirroring := .singleLower } [] = .refused .malformedCartridge ∧
    powerOn 0 Cartridge.empty [(2048, 0x01)] = .refused .malformedCartridge := ⟨rfl, rfl, rfl, rfl, rfl, rfl⟩

theorem test_witness_FlagInstructionsWriteOneFlag :
    (∃ t u : State, exec .cli (probe []) = .next t ∧ u.p = t.p ∧ u.nmiPending = false ∧ u.irqPending = true) ∧
    (∃ t u : State, exec .sei (probe []) = .next t ∧ u.p = t.p ∧ u.nmiPending = false ∧ u.irqPending = true) :=
  ⟨⟨_, { probe [] with p := 0x20, irqPending := true }, rfl, rfl, rfl, rfl⟩,
    ⟨_, { probe [] with p := 0x24, irqPending := true }, rfl, rfl, rfl, rfl⟩⟩

/-- The statements over forms run over lists that hold each of the 256 opcode bytes once. -/
theorem test_witness_forms_cover_every_opcode :
    let ops := (ldaForms 0 0 ++ ldxForms 0 0 ++ ldyForms 0 0 ++ staForms 0 0 ++ stxForms 0 0 ++ styForms 0 0 ++ taxForms ++
      tayForms ++ txaForms ++ tyaForms ++ tsxForms ++ txsForms ++ adcForms 0 0 ++ sbcForms 0 0 ++ andForms 0 0 ++
      oraForms 0 0 ++ eorForms 0 0 ++ bitForms 0 0 ++ cmpForms 0 0 ++ cpxForms 0 0 ++ cpyForms 0 0 ++ incForms 0 0 ++
      decForms 0 0 ++ inxForms ++ inyForms ++ dexForms ++ deyForms ++ aslAForms ++ aslForms 0 0 ++ lsrAForms ++
      lsrForms 0 0 ++ rolAForms ++ rolForms 0 0 ++ rorAForms ++ rorForms 0 0 ++ bccForms 0 ++ bcsForms 0 ++ beqForms 0 ++
      bneForms 0 ++ bmiForms 0 ++ bplForms 0 ++ bvcForms 0 ++ bvsForms 0 ++ jmpForms 0 ++ jsrForms 0 ++ rtsForms ++
      phaForms ++ plaForms ++ phpForms ++ plpForms ++ clcForms ++ secForms ++ cliForms ++ seiForms ++ cldForms ++
      sedForms ++ clvForms ++ nopForms ++ brkForms ++ rtiForms ++ laxForms 0 0 ++ saxForms 0 0 ++ dcpForms 0 0 ++
      isbForms 0 0 ++ sloForms 0 0 ++ rlaForms 0 0 ++ sreForms 0 0 ++ rraForms 0 0 ++ nopImpliedForms ++
      nopReadForms 0 0 ++ sbcUndocumentedForms 0 ++ ancForms 0 ++ arrForms 0 ++ asrForms 0 ++ lxaForms 0 ++
      shaForms 0 0 ++ sbxForms 0 ++ laeForms 0 ++ shxForms 0 ++ shyForms 0 ++ aneForms 0 ++ shsForms 0 ++
      jamForms).map Form.op
    ops.length = 256 ∧ ops.foldl (fun n o => n + 2 ^ o.toNat) 0 = 2 ^ 256 - 1 := by decide +kernel

theorem test_witness_ReadsGoToTheOwner :
    (0x1FFF : Word).toNat ≤ 0x1FFF ∧ 0x2000 ≤ (0x2000 : Word).toNat ∧ (0x2000 : Word).toNat ≤ 0x3FFF ∧
    (0x3FFF : Word).toNat ≤ 0x3FFF ∧ 0x4000 ≤ (0x4000 : Word).toNat ∧ (0x4017 : Word).toNat ≤ 0x4017 ∧
    0x4018 ≤ (0x4018 : Word).toNat ∧ (0x7FFF : Word).toNat ≤ 0x7FFF ∧ 0x8000 ≤ (0x8000 : Word).toNat ∧
    0x8000 ≤ (0xFFFF : Word).toNat := by decide

theorem test_witness_IndexedAndPointerModesAddress :
    (Operand.absolute 0x2007).mode ≠ .immediate ∧ resolve (.absolute 0x2007) (probe []) = .ok (0x2007, probe []) ∧
    (Operand.absoluteX 0x02FF).mode ≠ .immediate ∧
    resolve (.absoluteX 0x02FF) { probe [] with x := 0x01 } = .ok (0x0300, { probe [] with x := 0x01, extra := 1 }) :=
  ⟨by decide, rfl, by decide, rfl⟩

theorem test_witness_RamMirrorsEvery2K : 2047 < 2048 ∧ 3 < 4 ∧ 0 < 4 ∧ 511 < 512 ∧
    (memRead (BitVec.ofNat 16 2047) (memWrite (BitVec.ofNat 16 (2047 + 2048 * 3)) 0x5A (probe []))).1 = 0x5A := by decide

theorem test_witness_StackIsLifoAndWraps : (List.replicate 256 (0x5A : Byte)).length ≤ 256 := by
  decide +kernel

theorem test_witness_DirectMapperMirrors16K :
    (probe []).mapper = .direct ∧ (probe []).cart.prgLen = 32768 ∧
    ({ Cartridge.empty with prgLen := 16384 } : Cartridge).prgLen = 16384 ∧ 0x8000 ≤ (0xFFFF : Word).toNat ∧
    0xC000 ≤ (0xC000 : Word).toNat := by decide

theorem test_witness_FifthQualifyingWriteLatches :
    128 ≤ (0x80 : Byte).toNat ∧ (0x7F : Byte).toNat < 128 ∧ ({ shiftAtLoad with count := 3 } : ShiftRegs).count.val < 4 ∧
    shiftAtLoad.shift = 0 ∧ shiftAtLoad.count = 0 ∧ 0x8000 ≤ (0x8000 : Word).toNat ∧ 0x8000 ≤ (0xFFFF : Word).toNat ∧
    (shiftMachine shiftAtLoad).mapper = .shiftRegister shiftAtLoad := by
  decide
theorem test_witness_FifthQualifyingWriteLatches_edges :
    (shiftWrites shiftAtLoad [(0x8000, 0x7F), (0x8000, 0x01), (0x8000, 0x01), (0x8000, 0x01), (0x9FFF, 0x01)]).control = 0x1F ∧
    (shiftWrites shiftAtLoad [(0x8000, 0x01), (0x8000, 0x00), (0x8000, 0x00), (0x8000, 0x00), (0xA000, 0x01)]).chr0 = 0x11 ∧
    (shiftWrites shiftAtLoad [(0x8000, 0x01), (0x8000, 0x00), (0x8000, 0x00), (0x8000, 0x00), (0xDFFF, 0x01)]).chr1 = 0x11 ∧
    (shiftWrites shiftAtLoad [(0x8000, 0x01), (0x8000, 0x00), (0x8000, 0x00), (0x8000, 0x00), (0xE000, 0x01)]).prg = 0x11 := by
  decide

theorem test_witness_ShiftMapperSelectsPrgBanks :
    (shiftMachine shiftAtLoad).mapper = .shiftRegister shiftAtLoad ∧ (shiftMachine shiftAtLoad).cart.prgLen = 16384 * 4 ∧
    1 ≤ 4 ∧ 0x8000 ≤ (0xBFFF : Word).toNat ∧
    ({ shiftMachine shiftAtLoad with cart := { Cartridge.empty with prgLen := 16384 } } : State).cart.prgLen = 16384 * 1 := by
  decide

theorem test_witness_LatchWritesSelectByAddress : 0x8000 ≤ (0x9FFF : Word).toNat ∧ 0x8000 ≤ (0xF000 : Word).toNat ∧
    (latchMachine (.latchA latchRegs)).mapper = .latchA latchRegs ∧
    (latchMachine (.latchB latchRegs)).mapper = .latchB latchRegs := by decide

theorem test_witness_PatternReadUsesTheOldLatch :
    (latchMachine (.latchB latchRegs)).mapper = (if true then .latchB latchRegs else .latchA latchRegs) ∧
    (latchMachine (.latchA latchRegs)).mapper = (if false then .latchB latchRegs else .latchA latchRegs) ∧
    (latchMachine (.latchA latchRegs)).cart.chrIsRam = false ∧
    (latchMachine (.latchB latchRegs)).cart.chrIsRam = false := by decide
/-- On a CHR RAM the byte is open and the latch is set all the same. -/
theorem test_witness_PatternReadUsesTheOldLatch_chr_ram :
    let s := { latchMachine (.latchA latchRegs) with cart := { Cartridge.empty with chrIsRam := true } }
    s.mapper = (if false then .latchB latchRegs else .latchA latchRegs) ∧ s.cart.chrIsRam = true ∧
    (readChr s 0x0FD8 false).2.mapper = .latchA { latchRegs with latch0 := .fd } ∧ usesChrRam s = true := ⟨rfl, rfl, rfl, rfl⟩

theorem test_witness_LatchMappersSelectPrgBanks :
    1 ≤ 1 ∧ 0x8000 ≤ (0xA000 : Word).toNat ∧ (latchMachine (.latchA latchRegs)).cart.prgLen = 8192 * 16 ∧
    (latchMachine (.latchB latchRegs)).cart.prgLen = 16384 * 8 ∧
    (∃ s : State, s.mapper = .latchA latchRegs ∧ s.cart.prgLen = 8192 * 1) ∧
    (∃ s : State, s.mapper = .latchB latchRegs ∧ s.cart.prgLen = 16384 * 1) :=
  ⟨by decide, by decide, rfl, rfl,
    ⟨{ latchMachine (.latchA latchRegs) with cart := { Cartridge.empty with prgLen := 8192 } }, rfl, rfl⟩,
    ⟨{ latchMachine (.latchB latchRegs) with cart := { Cartridge.empty with prgLen := 16384 } }, rfl, rfl⟩⟩

theorem test_witness_ChrBanksAndMirroring :
    (probe []).mapper = .direct ∧ (probe []).cart.chrIsRam = false ∧
    (shiftMachine shiftAtLoad).mapper = .shiftRegister shiftAtLoad ∧ (shiftMachine shiftAtLoad).cart.chrIsRam = false ∧
    ((latchMachine (.latchA latchRegs)).mapper = .latchA latchRegs ∨
      (latchMachine (.latchA latchRegs)).mapper = .latchB latchRegs) ∧
    (State.reset.mapper = .direct ∧
      ({ State.reset with cart := { Cartridge.empty with chrIsRam := true } } : State).cart.chrIsRam = true) := by decide

theorem test_witness_NmiIsTakenWhateverIIs :
    ({ probe [] with nmiPending := true } : State).nmiPending = true ∧ (probe []).tickInputs = quiet :: [quiet] ∧
    ({ probe [] with nmiPending := true, p := 0x20 } : State).nmiPending = true := ⟨rfl, rfl, rfl⟩

theorem test_witness_IrqIsTakenOnlyWhenIIsClear :
    (probe []).nmiPending = false ∧ (probe []).irqPending = false ∧ getFlag .I (probe []).p = true ∧
    ({ probe [] with irqPending := true, p := 0x20 } : State).irqPending = true ∧
    getFlag .I ({ probe [] with irqPending := true, p := 0x20 } : State).p = false ∧
    (probe []).tickInputs = quiet :: [quiet] := ⟨rfl, rfl, rfl, rfl, rfl, rfl⟩

theorem test_witness_TickKeepsTheCoreAndPrg : ({ probe [] with nmiPending := true } : State).nmiPending = true ∧
    (probe []).mapper = .direct ∧ (shiftMachine shiftAtLoad).mapper = .shiftRegister shiftAtLoad ∧
    (latchMachine (.latchA latchRegs)).mapper = .latchA latchRegs ∧
    (latchMachine (.latchB latchRegs)).mapper = .latchB latchRegs ∧ (probe []).tickInputs = quiet :: [quiet] :=
  ⟨rfl, rfl, rfl, rfl, rfl, rfl⟩
/-- A tick whose environment makes one pattern read at 0x0FD8 (M9): the latch is set and the bank registers stay. -/
theorem test_tick_pattern_read_sets_the_latch :
    (tick 1 { latchMachine (.latchA latchRegs) with
      tickInputs := [{ quiet with chrReads := [0x0FD8] }] }).mapper = .latchA { latchRegs with latch0 := .fd } := rfl

theorem test_witness_AdcThenSbcGivesA : getFlag .C 0x24 = !getFlag .C 0x25 ∧ getFlag .C 0x25 = getFlag .C 0x25 ∧
    (sbcCore (adcCore 0x10 0x01 0x25).1 0x01 0x24).1 = 0x10 ∧ (sbcCore (adcCore 0x10 0x01 0x24).1 0x01 0x24).1 = 0x0F := by
  decide

end Sys2Proof.Tests
end

namespace Sys2Proof.Machine

/-! ### Soundness over an iteration: the state invariant, the cartridge, the Faulted status (10_state.md R26, R30, R35) -/

/-- A raised fault is not a next state. -/
theorem faultOf_ne_next (r : FaultReason) (s t : State) : faultOf r s ≠ .next t := by
  cases r <;> nofun

theorem unsupported_ne_next (op : Byte) (s t : State) : unsupported op s ≠ .next t :=
  faultOf_ne_next (.unsupportedInstruction op (s.pc - 1)) _ t

/-- A step that answers a next state was taken from a Running machine. -/
theorem running_of_step_next {s t : State} (h : step s = .next t) : s.status = .running := by
  cases hs : s.status with
  | running => rfl
  | faulted r =>
    rw [step_faulted hs] at h
    exact absurd h (faultOf_ne_next r s t)

/-- Whatever an instruction does, a step that answers a next state keeps what every part of the iteration keeps. -/
theorem step_kept {s t : State} (h : step s = .next t) : Kept s t := by
  obtain ⟨i, d, u, -, touched, ⟨v, -, effect, hstep⟩ | ⟨op, -, hstep⟩⟩ := step_cases (running_of_step_next h)
  · obtain rfl : finish d v = t := by simpa [hstep] using h
    have toFetched : Kept (pollInterrupts s) u :=
      ((Effect.registers _ _ _ _ _ _ _ _ _ _ id).trans touched.effect).kept
    exact (((pollInterrupts_kept s).trans toFetched).trans effect.kept).trans (finish_kept d v)
  · rw [hstep] at h
    exact absurd h (unsupported_ne_next op u t)

/-- The loader's check looks at the mapper's variant alone, not at its registers (70 R362). -/
theorem cartridgeOk_of_sameVariant {m n : Mapper} (h : SameVariant m n) (c : Cartridge) :
    cartridgeOk n c = cartridgeOk m c :=
  match m, n, h with
  | .direct, .direct, _ => rfl
  | .shiftRegister _, .shiftRegister _, _ => rfl
  | .latchA _, .latchA _, _ => rfl
  | .latchB _, .latchB _, _ => rfl

/-- What an iteration keeps is enough for the invariant. -/
theorem Kept.inv {s t : State} (k : Kept s t) (h : s.Inv) : t.Inv := by
  obtain ⟨hstatus, hbit, hram, hcart⟩ := h
  refine ⟨k.status.trans hstatus, k.bitFive hbit, k.ramForm hram, ?_⟩
  rw [k.cart, cartridgeOk_of_sameVariant k.variant]
  exact hcart

theorem hostReset_status (s : State) : (hostReset s).status = .running := by
  simp [hostReset, Params.resetTicks]

/-- Settles O10: what every part of an iteration keeps carries the invariant over. -/
theorem stepKeepsSoundMachine : Obligations.StepKeepsSoundMachine :=
  fun _ _ inv hstep => (step_kept hstep).inv inv

/-- Settles O12: the cartridge and the mapper's variant are among what an iteration keeps. -/
theorem stepNeverChangesTheCartridge : Obligations.StepNeverChangesTheCartridge :=
  fun _ _ hstep => ⟨(step_kept hstep).cart, (step_kept hstep).variant⟩

/-- Settles O7: the step of a Faulted machine is its fault again, for both reasons; reset writes Running. -/
theorem faultedMachineTakesNoIteration : Obligations.FaultedMachineTakesNoIteration := by
  intro s op m opaddr
  refine ⟨fun h => ?_, fun h => ?_, hostReset_status s⟩
  · rw [step_faulted h]; rfl
  · rw [step_faulted h]; rfl

/-- The blank cartridge is one the loader accepts for the direct mapper (70 R362). -/
theorem cartridgeOk_empty : cartridgeOk .direct Cartridge.empty = true := by decide

/-- Settles O11: the pattern of reset, no cell in RAM, and the blank cartridge. -/
theorem resetIsSound : Obligations.ResetIsSound :=
  ⟨rfl, rfl, Memory.wf_nil 2048, cartridgeOk_empty⟩

end Sys2Proof.Machine

namespace Sys2Proof.Machine

/-! ### The owners of the address space (20_memory.md R51 to R59) -/

theorem regionOf_eq_ram_iff (a : Word) : regionOf a = .ram ↔ a.toNat ≤ 0x1FFF := by
  unfold regionOf; split_ifs <;> simp <;> omega

theorem regionOf_eq_ppu_iff (a : Word) : regionOf a = .ppu ↔ 0x2000 ≤ a.toNat ∧ a.toNat ≤ 0x3FFF := by
  unfold regionOf; split_ifs <;> simp <;> omega

theorem regionOf_eq_io_iff (a : Word) : regionOf a = .io ↔ 0x4000 ≤ a.toNat ∧ a.toNat ≤ 0x4017 := by
  unfold regionOf; split_ifs <;> simp <;> omega

theorem regionOf_eq_unmapped_iff (a : Word) : regionOf a = .unmapped ↔ 0x4018 ≤ a.toNat ∧ a.toNat ≤ 0x7FFF := by
  unfold regionOf; split_ifs <;> simp <;> omega

theorem regionOf_eq_mapper_iff (a : Word) : regionOf a = .mapper ↔ 0x8000 ≤ a.toNat := by
  unfold regionOf; split_ifs <;> simp <;> omega

/-- RAM repeats every 2048 addresses (R54). -/
theorem ramIndex_eq_mod (a : Word) : ramIndex a = a.toNat % 2048 := by
  unfold ramIndex
  rw [BitVec.toNat_and]
  exact Nat.and_two_pow_sub_one_eq_mod a.toNat 11

/-- The PPU window repeats every 8 addresses (R55). -/
theorem ppuReg_eq_mod (a : Word) : ppuReg a = BitVec.ofNat 16 (a.toNat % 8) := by
  apply BitVec.eq_of_toNat_eq
  have mask : (ppuReg a).toNat = a.toNat % 8 := by
    unfold ppuReg
    rw [BitVec.toNat_and]
    exact Nat.and_two_pow_sub_one_eq_mod a.toNat 3
  rw [mask, BitVec.toNat_ofNat]
  omega

/-! ### Bus reads (R52, R58, R64) -/

/-- A machine that differs in RAM, the mapper and the record of the environment keeps every register and flag. -/
theorem keeps_bus (s : State) (ram : Memory) (mapper : Mapper) (answers : List Byte) (draws : Nat)
    (events : List BusEvent) :
    Keeps [] [] s
      { s with ram := ram, mapper := mapper, devAnswers := answers, draws := draws, events := events } :=
  ⟨fun r _ => by cases r <;> rfl, fun _ _ => rfl, rfl, rfl, rfl, rfl, rfl, rfl⟩

/-- A device read with a stated answer takes it (R58). -/
theorem devRead_stated {s : State} {v : Byte} {rest : List Byte} (h : s.devAnswers = v :: rest) (dev : Device)
    (reg : Word) :
    devRead dev reg s = (v, { s with devAnswers := rest, events := .devRead dev reg v :: s.events }) := by
  unfold devRead; rw [h]

/-- A device read with no stated answer left draws a free value (R58, log entry 4). -/
theorem devRead_free {s : State} (h : s.devAnswers = []) (dev : Device) (reg : Word) :
    devRead dev reg s = (Config.devAnswer s.draws,
      { s with draws := s.draws + 1, events := .devRead dev reg (Config.devAnswer s.draws) :: s.events }) := by
  unfold devRead; rw [h]

theorem devRead_answers (dev : Device) (reg : Word) (s : State) : DeviceAnswers dev reg s (devRead dev reg s) := by
  cases h : s.devAnswers with
  | nil =>
    rw [devRead_free h]
    exact ⟨.inr ⟨h, h, rfl, rfl⟩, rfl, keeps_bus s s.ram s.mapper s.devAnswers _ _, ⟨fun _ => rfl, rfl⟩, rfl, rfl⟩
  | cons v rest =>
    rw [devRead_stated h]
    exact ⟨.inl ⟨h, rfl⟩, rfl, keeps_bus s s.ram s.mapper rest s.draws _, ⟨fun _ => rfl, rfl⟩, rfl, rfl⟩

theorem memRead_of_ppu {a : Word} {s : State} (h : regionOf a = .ppu) : memRead a s = devRead .ppu (ppuReg a) s := by
  simp [memRead, h]

theorem memRead_of_io {a : Word} {s : State} (h : regionOf a = .io) : memRead a s = devRead .io a s := by
  simp [memRead, h]

theorem memRead_of_unmapped {a : Word} {s : State} (h : regionOf a = .unmapped) : memRead a s = (0x00, s) := by
  simp [memRead, h]

/-- Settles O43: the owner of each address range answers, by the one lemma on each owner's read. -/
theorem readsGoToTheOwner : Obligations.ReadsGoToTheOwner := by
  intro a s
  refine ⟨fun h => ?_, fun h k => ?_, fun h k => ?_, fun h k => ?_, fun h => memRead_high h s⟩
  · rw [memRead_of_ram ((regionOf_eq_ram_iff a).2 h), ramIndex_eq_mod]
  · rw [memRead_of_ppu ((regionOf_eq_ppu_iff a).2 ⟨h, k⟩), ppuReg_eq_mod]
    exact devRead_answers _ _ s
  · rw [memRead_of_io ((regionOf_eq_io_iff a).2 ⟨h, k⟩)]
    exact devRead_answers _ _ s
  · exact memRead_of_unmapped ((regionOf_eq_unmapped_iff a).2 ⟨h, k⟩)

theorem wordOf_toNat (h l : Byte) : (wordOf h l).toNat = 256 * h.toNat + l.toNat := by
  unfold wordOf
  rw [BitVec.toNat_append, Nat.shiftLeft_eq, Nat.mul_comm]
  exact (Nat.two_pow_add_eq_or_of_lt l.isLt h.toNat).symm

theorem add_one_eq_ofNat (a : Word) : a + 1 = BitVec.ofNat 16 ((a.toNat + 1) % 65536) :=
  BitVec.eq_of_toNat_eq (by simp)

/-- Settles O46: the definition's two reads, with the wrap and the byte order said in numbers. -/
theorem read16IsLittleEndian : Obligations.Read16IsLittleEndian := by
  intro a s
  rw [← add_one_eq_ofNat]
  exact ⟨_, _, _, _, _, rfl, rfl, rfl, wordOf_toNat _ _⟩

/-! ### Bus writes (R53, R54, R59) -/

/-- The events of a write, by the owner of its address, as the machine records them (R59, 70 R365, log entry 17). -/
theorem memWrite_events (a : Word) (v : Byte) (s : State) :
    (memWrite a v s).events = writeEvents s.mapper a v ++ s.events := by
  rw [memWrite_eq]
  unfold writeEvents
  cases regionOf a with
  | ram => rfl
  | ppu => rfl
  | io => rfl
  | unmapped => rfl
  | mapper => cases s.mapper <;> rfl

/-- A write leaves every RAM byte but the one its address names, and that one too outside the RAM window. -/
theorem memWrite_ram_read (a : Word) (v : Byte) (s : State) (k : Nat) :
    (memWrite a v s).ram.read k = if regionOf a = .ram ∧ k = a.toNat % 2048 then v else s.ram.read k := by
  rw [memWrite_eq, ← ramIndex_eq_mod]
  by_cases h : regionOf a = .ram
  · simp [h, Memory.read_write]
  · simp [h]

theorem memWrite_mapper (a : Word) (v : Byte) (s : State) :
    (memWrite a v s).mapper = if regionOf a = .mapper then mapperWrite s.mapper a v else s.mapper := by
  rw [memWrite_eq]

/-- A write at 0x8000 or above reaches the mapper's port (R53). -/
theorem memWrite_mapper_high {a : Word} (h : 0x8000 ≤ a.toNat) (v : Byte) (s : State) :
    (memWrite a v s).mapper = mapperWrite s.mapper a v := by
  rw [memWrite_mapper, if_pos ((regionOf_eq_mapper_iff a).2 h)]

theorem memWrite_stored (a : Word) (v : Byte) (s : State) : Stored a v s s (memWrite a v s) :=
  ⟨memWrite_ram_read a v s, memWrite_mapper a v s, memWrite_events a v s, memWrite_extra a v s,
   memWrite_devAnswers a v s, memWrite_draws a v s⟩

theorem memWrite_keeps (a : Word) (v : Byte) (s : State) : Keeps [] [] s (memWrite a v s) := by
  rw [memWrite_eq]
  exact keeps_bus s _ _ s.devAnswers s.draws _

/-- Settles O44: what a write stores, what it keeps, and the five address ranges. -/
theorem writesGoToTheOwner : Obligations.WritesGoToTheOwner :=
  fun a v s =>
    ⟨memWrite_stored a v s, memWrite_keeps a v s, memWrite_pc a v s, regionOf_eq_ram_iff a, regionOf_eq_ppu_iff a,
     regionOf_eq_io_iff a, regionOf_eq_unmapped_iff a, regionOf_eq_mapper_iff a⟩

/-- The four mirrors of a RAM byte lie in the RAM window and name that byte (R54). -/
theorem ram_mirror {k i : Nat} (hk : k < 2048) (hi : i < 4) :
    regionOf (BitVec.ofNat 16 (k + 2048 * i)) = .ram ∧ (BitVec.ofNat 16 (k + 2048 * i)).toNat % 2048 = k := by
  have value : (BitVec.ofNat 16 (k + 2048 * i)).toNat = k + 2048 * i := by
    rw [BitVec.toNat_ofNat]
    omega
  rw [regionOf_eq_ram_iff, value]
  omega

/-- Settles O45: both mirrors name one RAM byte, so the read is a read after a write. -/
theorem ramMirrorsEvery2K : Obligations.RamMirrorsEvery2K := by
  intro k i j v s hk hi hj
  obtain ⟨written, atI⟩ := ram_mirror hk hi
  obtain ⟨readFrom, atJ⟩ := ram_mirror hk hj
  refine ⟨?_, fun _ => (ram_mirror hk (i := 0) (by decide)).1⟩
  rw [memRead_of_ram readFrom, ramIndex_eq_mod, atJ, memWrite_ram_read, atI, if_pos ⟨written, rfl⟩]

/-! ### The direct mapper (R71 to R73) -/

theorem readPrg_direct {s : State} (h : s.mapper = .direct) (a : Word) :
    readPrg s a = s.cart.prg.read (directPrg s.cart.prgLen a.toNat) := by
  simp [readPrg, prgOffset, h]

/-- Settles O48: the offset of each image size; an address 16 KB lower names the same byte of a 16 KB image. -/
theorem directMapperMirrors16K : Obligations.DirectMapperMirrors16K := by
  intro s a v hm ha
  have straight (len : s.cart.prgLen = 32768) : readPrg s a = s.cart.prg.read (a.toNat - 0x8000) := by
    simp [readPrg_direct hm, directPrg, len]
  have mirrored (len : s.cart.prgLen = 16384) (b : Word) :
      readPrg s b = s.cart.prg.read ((b.toNat - 0x8000) % 16384) := by
    simp [readPrg_direct hm, directPrg, len]
  refine ⟨straight, fun len => mirrored len a, fun len hi => ?_, ?_, ?_⟩
  · have lower : ((a - 0x4000).toNat - 0x8000) % 16384 = (a.toNat - 0x8000) % 16384 := by bv_omega
    rw [mirrored len, mirrored len, lower]
  · rw [memWrite_mapper_high ha, hm]; rfl
  · simp [mirroring, hm]

/-! ### The shift-register mapper's write port (R75, R76) -/

theorem byte_bit7 (v : Byte) : v.getLsbD 7 = decide (128 ≤ v.toNat) := BitVec.msb_eq_decide v

theorem byte_bit7_of_lt {v : Byte} (h : v.toNat < 128) : v.getLsbD 7 = false := by
  rw [byte_bit7, decide_eq_false h.not_ge]

/-- A write with bit 7 set empties the shift register and sets bits 3 and 2 of control (R75). -/
theorem shiftWrite_reset (r : ShiftRegs) (a : Word) {v : Byte} (h : 128 ≤ v.toNat) :
    shiftWrite r a v = { r with shift := 0, count := 0, control := r.control ||| 0x0C } := by
  simp [shiftWrite, byte_bit7, h]

/-- The shift register with bit 0 of a byte put in at a place (R75). -/
def shiftIn (shift : BitVec 5) (v : Byte) (k : Nat) : BitVec 5 := shift ||| ((v &&& 1).setWidth 5 <<< k)

theorem getLsbD_shiftIn (shift : BitVec 5) (v : Byte) (k : Nat) {j : Nat} (hj : j < 5) :
    (shiftIn shift v k).getLsbD j = (shift.getLsbD j || (decide (j = k) && v.getLsbD 0)) := by
  have placed : ((v &&& 1).setWidth 5 <<< k).getLsbD j = (decide (j = k) && v.getLsbD 0) := by
    rw [BitVec.getLsbD_shiftLeft, BitVec.getLsbD_setWidth, BitVec.getLsbD_and]
    by_cases low : j < k
    · simp [low, low.ne]
    · by_cases h : j = k
      · simp [h]; omega
      · simp [h]; omega
  rw [shiftIn, BitVec.getLsbD_or, placed]

/-- Above the places filled so far, a bit put in adds the value of its place. -/
theorem toNat_shiftIn {shift : BitVec 5} {k : Nat} (hs : shift.toNat < 2 ^ k) (hk : k < 5) (v : Byte) :
    (shiftIn shift v k).toNat = shift.toNat + v.toNat % 2 * 2 ^ k := by
  have bit : ((v &&& 1).setWidth 5 <<< k).toNat = 2 ^ k * (v.toNat % 2) := by
    have low : (v &&& 1).toNat = v.toNat % 2 := by
      rw [BitVec.toNat_and]
      exact Nat.and_one_is_mod v.toNat
    rw [BitVec.toNat_shiftLeft, BitVec.toNat_setWidth, low, Nat.shiftLeft_eq]
    interval_cases k <;> omega
  rw [shiftIn, BitVec.toNat_or, bit, Nat.or_comm, ← Nat.two_pow_add_eq_or_of_lt hs]
  ring

/-- A write before the fifth collects its bit and latches nothing (R75). -/
theorem shiftWrite_collects {r : ShiftRegs} (a : Word) {v : Byte} (hv : v.toNat < 128) (hc : r.count.val + 1 < 5) :
    shiftWrite r a v = { r with shift := shiftIn r.shift v r.count, count := ⟨r.count.val + 1, hc⟩ } := by
  simp only [shiftWrite, byte_bit7_of_lt hv, hc, shiftIn]
  rfl

/-- The fifth write latches in the register its address selects and empties the shift register (R75, R76). -/
theorem shiftWrite_latches {r : ShiftRegs} (a : Word) {v : Byte} (hv : v.toNat < 128) (hc : r.count.val = 4) :
    shiftWrite r a v =
      { shift := 0
        count := 0
        control := if a.toNat / 8192 % 4 = 0 then shiftIn r.shift v 4 else r.control
        chr0 := if a.toNat / 8192 % 4 = 1 then shiftIn r.shift v 4 else r.chr0
        chr1 := if a.toNat / 8192 % 4 = 2 then shiftIn r.shift v 4 else r.chr1
        prg := if a.toNat / 8192 % 4 = 3 then shiftIn r.shift v 4 else r.prg } := by
  have select : a.toNat / 8192 % 4 < 4 := Nat.mod_lt _ (by decide)
  simp only [shiftWrite, byte_bit7_of_lt hv, hc, shiftIn]
  generalize a.toNat / 8192 % 4 = k at select
  interval_cases k <;> rfl

/-- A mapper that has taken k qualifying writes since its shift register was empty: they are collected, first write at
bit 0, and the registers stand as they did. -/
structure Collected (r : ShiftRegs) (k val : Nat) (q : ShiftRegs) : Prop where
  count   : q.count.val = k
  shift   : q.shift.toNat = val
  bound   : val < 2 ^ k
  control : q.control = r.control
  chr0    : q.chr0 = r.chr0
  chr1    : q.chr1 = r.chr1
  prg     : q.prg = r.prg

theorem Collected.empty {r : ShiftRegs} (hs : r.shift = 0) (hc : r.count = 0) : Collected r 0 0 r :=
  ⟨by simp [hc], by simp [hs], by decide, rfl, rfl, rfl, rfl⟩

theorem Collected.shiftIn_toNat {r q : ShiftRegs} {k val : Nat} (c : Collected r k val q) (hk : k < 5) (v : Byte) :
    (shiftIn q.shift v k).toNat = val + v.toNat % 2 * 2 ^ k := by
  have below : q.shift.toNat < 2 ^ k := c.shift ▸ c.bound
  rw [toNat_shiftIn below hk, c.shift]

theorem Collected.write {r q : ShiftRegs} {k val : Nat} (c : Collected r k val q) (hk : k + 1 < 5) (a : Word) {v : Byte}
    (hv : v.toNat < 128) : Collected r (k + 1) (val + v.toNat % 2 * 2 ^ k) (shiftWrite q a v) := by
  obtain ⟨rfl, -, bound, control, chr0, chr1, prg⟩ := id c
  rw [shiftWrite_collects a hv hk]
  refine ⟨rfl, c.shiftIn_toNat (by omega) v, ?_, control, chr0, chr1, prg⟩
  have bit : v.toNat % 2 ≤ 1 := by omega
  calc val + v.toNat % 2 * 2 ^ q.count.val < 2 ^ q.count.val + 1 * 2 ^ q.count.val :=
        Nat.add_lt_add_of_lt_of_le bound (Nat.mul_le_mul_right _ bit)
    _ = 2 ^ (q.count.val + 1) := by ring

/-- The fifth write, at 0x8000 or above, in numbers. -/
theorem Collected.latch {r q : ShiftRegs} {val : Nat} (c : Collected r 4 val q) {a : Word} {v : Byte}
    (hv : v.toNat < 128) (ha : 0x8000 ≤ a.toNat) :
    (shiftWrite q a v).shift = 0 ∧ (shiftWrite q a v).count = 0 ∧
    (shiftWrite q a v).control.toNat = (if a.toNat ≤ 0x9FFF then val + v.toNat % 2 * 16 else r.control.toNat) ∧
    (shiftWrite q a v).chr0.toNat =
      (if 0xA000 ≤ a.toNat ∧ a.toNat ≤ 0xBFFF then val + v.toNat % 2 * 16 else r.chr0.toNat) ∧
    (shiftWrite q a v).chr1.toNat =
      (if 0xC000 ≤ a.toNat ∧ a.toNat ≤ 0xDFFF then val + v.toNat % 2 * 16 else r.chr1.toNat) ∧
    (shiftWrite q a v).prg.toNat = (if 0xE000 ≤ a.toNat then val + v.toNat % 2 * 16 else r.prg.toNat) := by
  have top : a.toNat < 65536 := a.isLt
  have to_control : a.toNat / 8192 % 4 = 0 ↔ a.toNat ≤ 0x9FFF := by omega
  have to_chr0 : a.toNat / 8192 % 4 = 1 ↔ 0xA000 ≤ a.toNat ∧ a.toNat ≤ 0xBFFF := by omega
  have to_chr1 : a.toNat / 8192 % 4 = 2 ↔ 0xC000 ≤ a.toNat ∧ a.toNat ≤ 0xDFFF := by omega
  have to_prg : a.toNat / 8192 % 4 = 3 ↔ 0xE000 ≤ a.toNat := by omega
  rw [shiftWrite_latches a hv c.count]
  simp only [apply_ite BitVec.toNat, c.shiftIn_toNat (by decide) v, to_control, to_chr0, to_chr1, to_prg, c.control,
    c.chr0, c.chr1, c.prg]
  exact ⟨trivial, trivial, rfl, rfl, rfl, rfl⟩

/-- Settles O49: the reset write, the collecting write, and four collecting writes followed by the latching one. -/
theorem fifthQualifyingWriteLatches : Obligations.FifthQualifyingWriteLatches := by
  refine ⟨fun r a v hv => ?_, fun r a v hv hc => ?_, ?_, fun s r a v hm ha => ?_⟩
  · rw [shiftWrite_reset r a hv]
    exact ⟨rfl, rfl, rfl, rfl, rfl, rfl⟩
  · rw [shiftWrite_collects a hv (by omega)]
    exact ⟨fun k hk => getLsbD_shiftIn r.shift v r.count hk, rfl, rfl, rfl, rfl, rfl⟩
  · intro r a1 a2 a3 a4 a5 v1 v2 v3 v4 v5 hs hc h1 h2 h3 h4 h5 ha
    have four := ((((Collected.empty hs hc).write (by decide) a1 h1).write (by decide) a2 h2).write (by decide) a3
      h3).write (by decide) a4 h4
    refine ⟨_, _, rfl, rfl, ?_⟩
    simpa [shiftWrites] using four.latch h5 ha
  · rw [memWrite_mapper_high ha, hm]
    rfl

/-! ### PRG banks (R69, R78, R86, R89) -/

/-- An offset within a bank of a store of n banks stays in that bank, the bank number taken modulo n. -/
theorem bank_offset_mod {size within : Nat} (hw : within < size) (bank n : Nat) :
    (bank * size + within) % (size * n) = bank % n * size + within := by
  have size_pos : 0 < size := Nat.zero_lt_of_lt hw
  have bank_of : (bank * size + within) / size = bank := by
    rw [Nat.add_comm, Nat.add_mul_div_right _ _ size_pos, Nat.div_eq_of_lt hw, Nat.zero_add]
  rw [Nat.mod_mul, Nat.mul_add_mod_of_lt hw, bank_of]
  ring

/-- A fixed bank counted from the end of a store of n banks, taken modulo n where n is smaller than that (log entry 13):
adding the store's banks as many times as it takes to keep the number a natural one changes nothing. -/
theorem fixedBank_eq {size within n back : Nat} (hw : within < size) (hb : back ≤ 4 * n) :
    fixedBank (size * n) size back within = (4 * n - back) % n * size + within := by
  have banks : size * n / size = n := Nat.mul_div_cancel_left n (Nat.zero_lt_of_lt hw)
  have shifted : ((n : Int) - back) * size + within = ((4 * n - back) * size + within : Nat) + (size * n : Nat) * (-3) := by
    push_cast [Nat.cast_sub hb]
    ring
  rw [fixedBank, banks, shifted, Int.add_mul_emod_self_left, ← Int.natCast_mod, Int.toNat_natCast, bank_offset_mod hw]

/-- The last bank of a store. -/
theorem fixedBank_last {size within n : Nat} (hw : within < size) (hn : 1 ≤ n) :
    fixedBank (size * n) size 1 within = (n - 1) * size + within := by
  rw [fixedBank_eq hw (by omega)]
  have last : 4 * n - 1 = n - 1 + n * 3 := by omega
  rw [last, Nat.add_mul_mod_self_left, Nat.mod_eq_of_lt (by omega)]

theorem readPrg_shiftRegister {s : State} {r : ShiftRegs} (h : s.mapper = .shiftRegister r) (a : Word) :
    readPrg s a = s.cart.prg.read (shiftPrg r s.cart.prgLen a.toNat) := by
  simp [readPrg, prgOffset, h]

theorem readPrg_latchA {s : State} {r : LatchRegs} (h : s.mapper = .latchA r) (a : Word) :
    readPrg s a = s.cart.prg.read (latchAPrg r s.cart.prgLen a.toNat) := by
  simp [readPrg, prgOffset, h]

theorem readPrg_latchB {s : State} {r : LatchRegs} (h : s.mapper = .latchB r) (a : Word) :
    readPrg s a = s.cart.prg.read (latchBPrg r s.cart.prgLen a.toNat) := by
  simp [readPrg, prgOffset, h]

/-- The even bank of the pair a bank number lies in. -/
theorem and_0x0E {b : Nat} (h : b < 16) : b &&& 0x0E = b / 2 * 2 := by
  interval_cases b <;> rfl

/-- Settles O50: the bank mode, and in the two split modes the half of the window. -/
theorem shiftMapperSelectsPrgBanks : Obligations.ShiftMapperSelectsPrgBanks := by
  intro s r n a hm hlen hn ha
  have top : a.toNat < 65536 := a.isLt
  rw [readPrg_shiftRegister hm, hlen]
  refine congrArg s.cart.prg.read ?_
  have hmode : r.control.toNat / 4 % 4 < 4 := Nat.mod_lt _ (by decide)
  simp only [shiftPrg, and_0x0E (Nat.mod_lt _ (by decide : 0 < 16))]
  generalize r.control.toNat / 4 % 4 = mode at hmode
  by_cases low : a.toNat < 0xC000
  · have first : (a.toNat - 0x8000) % (16384 * n) = a.toNat - 0x8000 := Nat.mod_eq_of_lt (by omega)
    simp only [low, if_true, first]
    interval_cases mode <;> simp
  · rw [fixedBank_last (by omega) hn]
    simp only [low, if_false]
    interval_cases mode <;> simp

/-- Settles O53: the bank that each window of the two variants names, the fixed ones counted from the end. -/
theorem latchMappersSelectPrgBanks : Obligations.LatchMappersSelectPrgBanks := by
  intro s r n a hn ha
  have top : a.toNat < 65536 := a.isLt
  refine ⟨fun hm hlen => ?_, fun hm hlen => ?_⟩
  · rw [readPrg_latchA hm, hlen, latchAPrg]
    refine congrArg s.cart.prg.read ?_
    split_ifs
    · exact Eq.refl _
    · exact fixedBank_eq (by omega) (by omega)
    · exact fixedBank_eq (by omega) (by omega)
    · exact fixedBank_last (by omega) hn
  · rw [readPrg_latchB hm, hlen, latchBPrg]
    refine congrArg s.cart.prg.read ?_
    split_ifs
    · exact Eq.refl _
    · exact fixedBank_last (by omega) hn

/-! ### The latch mappers' write port (R85) -/

/-- A write from 0x8000 to a latch mapper, register by register: the 4 KB range of its address picks at most one. -/
theorem latchWrite_eq (r : LatchRegs) {a : Word} (v : Byte) (ha : 0x8000 ≤ a.toNat) :
    latchWrite r a v =
      { r with
        prg := if 0xA000 ≤ a.toNat ∧ a.toNat ≤ 0xAFFF then v.setWidth 4 else r.prg
        chrFd0 := if 0xB000 ≤ a.toNat ∧ a.toNat ≤ 0xBFFF then v.setWidth 5 else r.chrFd0
        chrFe0 := if 0xC000 ≤ a.toNat ∧ a.toNat ≤ 0xCFFF then v.setWidth 5 else r.chrFe0
        chrFd1 := if 0xD000 ≤ a.toNat ∧ a.toNat ≤ 0xDFFF then v.setWidth 5 else r.chrFd1
        chrFe1 := if 0xE000 ≤ a.toNat ∧ a.toNat ≤ 0xEFFF then v.setWidth 5 else r.chrFe1
        mirror := if 0xF000 ≤ a.toNat then v.setWidth 1 else r.mirror } := by
  have top : a.toNat < 65536 := a.isLt
  have range (p : Nat) : p * 4096 ≤ a.toNat ∧ a.toNat ≤ p * 4096 + 4095 ↔ a.toNat / 4096 = p := by omega
  have toPrg := range 0xA
  have toFd0 := range 0xB
  have toFe0 := range 0xC
  have toFd1 := range 0xD
  have toFe1 := range 0xE
  have toMirror : 0xF000 ≤ a.toNat ↔ a.toNat / 4096 = 0xF := by omega
  have low : 8 ≤ a.toNat / 4096 := by omega
  have high : a.toNat / 4096 < 16 := by omega
  simp only [latchWrite, toPrg, toFd0, toFe0, toFd1, toFe1, toMirror]
  generalize a.toNat / 4096 = page at low high
  interval_cases page <;> rfl

/-- Settles O51: the register of each address range, and the port behind the bus. -/
theorem latchWritesSelectByAddress : Obligations.LatchWritesSelectByAddress := by
  intro r a v ha
  have port (s : State) : (s.mapper = .latchA r → (memWrite a v s).mapper = .latchA (latchWrite r a v)) ∧
      (s.mapper = .latchB r → (memWrite a v s).mapper = .latchB (latchWrite r a v)) := by
    rw [memWrite_mapper_high ha]
    exact ⟨fun h => by rw [h]; rfl, fun h => by rw [h]; rfl⟩
  rw [latchWrite_eq r v ha] at port ⊢
  simp only [apply_ite BitVec.toNat, BitVec.toNat_setWidth, true_and]
  exact port

/-! ### Pattern reads (R72, R79, R87, R92) -/

/-- A sentinel of latch 0: one address on variant A, eight on variant B (R87). -/
theorem sentinel0_iff (wide : Bool) {base last : Nat} (eight : last = base + 7) (k : Nat) :
    base ≤ k ∧ k < base + (if wide then 8 else 1) ↔ k = base ∨ wide = true ∧ base ≤ k ∧ k ≤ last := by
  cases wide <;> simp <;> omega

/-- The latches after one pattern read: latch 0 moves on its sentinels alone, latch 1 on its own (R87). -/
theorem touchLatch_eq (wide : Bool) (r : LatchRegs) (a : PpuAddr) :
    touchLatch (if wide then 8 else 1) r a =
      { r with
        latch0 :=
          if a.toNat = 0x0FD8 ∨ wide = true ∧ 0x0FD8 ≤ a.toNat ∧ a.toNat ≤ 0x0FDF then .fd
          else if a.toNat = 0x0FE8 ∨ wide = true ∧ 0x0FE8 ≤ a.toNat ∧ a.toNat ≤ 0x0FEF then .fe
          else r.latch0
        latch1 :=
          if 0x1FD8 ≤ a.toNat ∧ a.toNat ≤ 0x1FDF then .fd
          else if 0x1FE8 ≤ a.toNat ∧ a.toNat ≤ 0x1FEF then .fe
          else r.latch1 } := by
  simp only [touchLatch, sentinel0_iff wide (show 0x0FDF = 0x0FD8 + 7 by decide),
    sentinel0_iff wide (show 0x0FEF = 0x0FE8 + 7 by decide)]
  by_cases lower : a.toNat < 0x1000
  · have noFd1 : ¬(0x1FD8 ≤ a.toNat ∧ a.toNat ≤ 0x1FDF) := by omega
    have noFe1 : ¬(0x1FE8 ≤ a.toNat ∧ a.toNat ≤ 0x1FEF) := by omega
    simp only [noFd1, noFe1, if_false]
    split_ifs <;> rfl
  · have noFd0 : ¬(a.toNat = 0x0FD8 ∨ wide = true ∧ 0x0FD8 ≤ a.toNat ∧ a.toNat ≤ 0x0FDF) := by omega
    have noFe0 : ¬(a.toNat = 0x0FE8 ∨ wide = true ∧ 0x0FE8 ≤ a.toNat ∧ a.toNat ≤ 0x0FEF) := by omega
    simp only [noFd0, noFe0, if_false]
    split_ifs <;> rfl

/-- The byte of a CHR ROM is the one at the mapper's offset, whether or not the read is read-only. -/
theorem readChr_rom {s : State} (h : s.cart.chrIsRam = false) (a : PpuAddr) (ro : Bool) :
    (readChr s a ro).1 = s.cart.chr.read (chrOffset s.mapper s.cart.chrLen a) := by
  simp [readChr, chrByte, chrSize, h]

/-- A read-only pattern read leaves the machine (R62). -/
theorem readChr_readOnly (s : State) (a : PpuAddr) : (readChr s a true).2 = s := rfl

/-- A pattern read changes the mapper's latches, and on a CHR RAM the counter of free values (log entries 6 and 14). -/
theorem readChr_state (s : State) (a : PpuAddr) :
    (readChr s a false).2 = { s with
      mapper := mapperAfterChr s.mapper [a]
      draws := if s.cart.chrIsRam then s.draws + 1 else s.draws } := rfl

/-- A pattern read of a CHR ROM changes the mapper's latches alone. -/
theorem readChr_rom_state {s : State} (h : s.cart.chrIsRam = false) (a : PpuAddr) :
    (readChr s a false).2 = { s with mapper := mapperAfterChr s.mapper [a] } := by
  rw [readChr_state, h]; rfl

/-- The latch mapper of the variant named: B has the eight-address sentinels of latch 0. -/
theorem mapperAfterChr_latch (wide : Bool) (r : LatchRegs) (a : PpuAddr) :
    mapperAfterChr (if wide then .latchB r else .latchA r) [a] =
      if wide then .latchB (touchLatch (if wide then 8 else 1) r a)
      else .latchA (touchLatch (if wide then 8 else 1) r a) := by
  cases wide <;> rfl

theorem chrOffset_latch (wide : Bool) (r : LatchRegs) (len : Nat) (a : PpuAddr) :
    chrOffset (if wide then .latchB r else .latchA r) len a =
      ((latchBank r a).toNat * 4096 + a.toNat % 4096) % len := by
  cases wide <;> rfl

/-- Settles O52: the bank and the latches are functions of the registers before the read. -/
theorem patternReadUsesTheOldLatch : Obligations.PatternReadUsesTheOldLatch := by
  intro s r a wide hm
  refine ⟨latchBank r a, _, if s.cart.chrIsRam then s.draws + 1 else s.draws, ?_, fun rom ro => ?_,
    readChr_readOnly s a, ?_, fun rom => ?_, touchLatch_eq wide r a⟩
  · unfold latchBank
    cases r.latch0 <;> cases r.latch1 <;> rfl
  · rw [readChr_rom rom, hm, chrOffset_latch]
  · rw [readChr_state, hm, mapperAfterChr_latch]
  · simp [rom]

/-- The direct and the shift-register mapper have no latch for a pattern read to move (R72, R79). -/
theorem mapperAfterChr_of_no_latch {m : Mapper} (h : m = .direct ∨ ∃ r, m = .shiftRegister r) (reads : List PpuAddr) :
    mapperAfterChr m reads = m := by
  obtain rfl | ⟨r, rfl⟩ := h <;> rfl

/-- On those two mappers a pattern read changes no more than the counter of free values. -/
theorem readChr_draws {s : State} (h : s.mapper = .direct ∨ ∃ r, s.mapper = .shiftRegister r) (a : PpuAddr) (ro : Bool) :
    ∃ drawn, (readChr s a ro).2 = { s with draws := drawn } := by
  cases ro with
  | true => exact ⟨s.draws, rfl⟩
  | false => exact ⟨_, by rw [readChr_state, mapperAfterChr_of_no_latch h]⟩

/-- On those two mappers a pattern read of a CHR ROM leaves the machine. -/
theorem readChr_rom_of_no_latch {s : State} (h : s.mapper = .direct ∨ ∃ r, s.mapper = .shiftRegister r)
    (rom : s.cart.chrIsRam = false) (a : PpuAddr) (ro : Bool) :
    readChr s a ro = (s.cart.chr.read (chrOffset s.mapper s.cart.chrLen a), s) := by
  refine Prod.ext (readChr_rom rom a ro) ?_
  cases ro with
  | true => rfl
  | false => rw [readChr_rom_state rom, mapperAfterChr_of_no_latch h]

/-- The even 4 KB bank of the pair a bank number lies in. -/
theorem and_0x1E {b : Nat} (h : b < 32) : b &&& 0x1E = b / 2 * 2 := by
  interval_cases b <;> rfl

/-- The shift-register mapper's CHR offset, its mode bit and its 8 KB pair said in numbers (R79). -/
theorem chrOffset_shiftRegister (r : ShiftRegs) (len : Nat) (a : PpuAddr) :
    chrOffset (.shiftRegister r) len a =
      (if r.control.toNat < 16 then r.chr0.toNat / 2 * 8192 + a.toNat
        else if a.toNat < 4096 then r.chr0.toNat * 4096 + a.toNat
        else r.chr1.toNat * 4096 + (a.toNat - 4096)) % len := by
  have mode : r.control.getLsbD 4 = false ↔ r.control.toNat < 16 := by
    rw [show r.control.getLsbD 4 = decide (16 ≤ r.control.toNat) from BitVec.msb_eq_decide r.control]
    simp
  have pair : r.chr0.toNat / 2 * 2 * 4096 = r.chr0.toNat / 2 * 8192 := by omega
  simp only [chrOffset, mode, and_0x1E r.chr0.isLt, pair]
  split_ifs <;> rfl

/-- The shift-register mapper mirrors by the low two bits of control (R80). -/
theorem mirroring_shiftRegister {s : State} {r : ShiftRegs} (h : s.mapper = .shiftRegister r) :
    mirroring s = if r.control.toNat % 4 = 0 then .singleLower else if r.control.toNat % 4 = 1 then .singleUpper
      else if r.control.toNat % 4 = 2 then .vertical else .horizontal := by
  have low : r.control.toNat % 4 < 4 := Nat.mod_lt _ (by decide)
  simp only [mirroring, h]
  generalize r.control.toNat % 4 = k at low
  interval_cases k <;> rfl

/-- A latch mapper mirrors by its mirror bit (R88). -/
theorem mirroring_latch {s : State} {r : LatchRegs} (h : s.mapper = .latchA r ∨ s.mapper = .latchB r) :
    mirroring s = if r.mirror.toNat = 0 then .vertical else .horizontal := by
  have bit : r.mirror = 0 ↔ r.mirror.toNat = 0 := BitVec.toNat_inj.symm
  obtain h | h := h <;> simp only [mirroring, h, bit]

/-- Settles O54: each mapper's CHR offset and mirroring, and what a pattern read leaves. -/
theorem chrBanksAndMirroring : Obligations.ChrBanksAndMirroring := by
  intro s a ro
  refine ⟨rfl, fun h => readChr_draws h a ro, fun hm rom => ?_, fun r hm => ⟨fun rom => ?_, mirroring_shiftRegister hm⟩,
    fun r hm => mirroring_latch hm⟩
  · rw [readChr_rom_of_no_latch (.inl hm) rom, hm]
    rfl
  · rw [readChr_rom_of_no_latch (.inr ⟨r, hm⟩) rom, hm, chrOffset_shiftRegister]

/-! ### The tick (R60, R61) -/

/-- A tick whose input is stated, all of it (R61, log entry 5). -/
theorem tick_stated {s : State} {i : TickInput} {rest : List TickInput} (h : s.tickInputs = i :: rest) (n : Nat) :
    tick n s =
      { s with
        cycles := s.cycles + n
        nmiPending := s.nmiPending || i.raiseNmi
        irqPending := i.irqLevel
        mapper := mapperAfterChr s.mapper i.chrReads
        tickInputs := rest
        events := .tick n :: s.events } := by
  unfold tick nextTickInput
  simp only [h]

/-- A tick never clears a pending NMI (R60). -/
theorem tick_nmiPending {s : State} (h : s.nmiPending = true) (n : Nat) : (tick n s).nmiPending = true := by
  obtain ⟨_, _, _, ht⟩ := tick_eq n s
  simp [ht, h]

/-- A tick moves the mapper by pattern reads alone, stated or free (R60). -/
theorem tick_mapper (n : Nat) (s : State) : ∃ reads, (tick n s).mapper = mapperAfterChr s.mapper reads := by
  obtain ⟨i, _, _, ht⟩ := tick_eq n s
  exact ⟨i.chrReads, by rw [ht]⟩

/-- Pattern reads in a row are the first read and then the others. -/
theorem mapperAfterChr_cons (m : Mapper) (a : PpuAddr) (reads : List PpuAddr) :
    mapperAfterChr m (a :: reads) = mapperAfterChr (mapperAfterChr m [a]) reads := by
  cases m <;> rfl

/-- The mapper after read_chr at each of the addresses, one after the other (R87). -/
theorem foldl_readChr_mapper (reads : List PpuAddr) (s : State) :
    (reads.foldl (fun t a => (readChr t a false).2) s).mapper = mapperAfterChr s.mapper reads := by
  induction reads generalizing s with
  | nil => cases h : s.mapper <;> simp [mapperAfterChr, h]
  | cons a reads ih => rw [List.foldl_cons, ih, readChr_state, ← mapperAfterChr_cons]

theorem touchLatch_latches (width : Nat) (r : LatchRegs) (a : PpuAddr) :
    ∃ l m, touchLatch width r a = { r with latch0 := l, latch1 := m } := by
  unfold touchLatch
  dsimp only
  split_ifs
  · exact ⟨.fd, r.latch1, rfl⟩
  · exact ⟨.fe, r.latch1, rfl⟩
  · exact ⟨r.latch0, .fd, rfl⟩
  · exact ⟨r.latch0, .fe, rfl⟩
  · exact ⟨r.latch0, r.latch1, rfl⟩

/-- Pattern reads change a latch mapper's two latches and no other register (R87). -/
theorem foldl_touchLatch_latches (width : Nat) (reads : List PpuAddr) (r : LatchRegs) :
    ∃ l m, reads.foldl (touchLatch width) r = { r with latch0 := l, latch1 := m } := by
  induction reads generalizing r with
  | nil => exact ⟨r.latch0, r.latch1, rfl⟩
  | cons a reads ih =>
    obtain ⟨l, m, first⟩ := touchLatch_latches width r a
    rw [List.foldl_cons, first]
    exact ih _

/-- Settles O58: a tick's fixed fields, and the mapper as its pattern reads leave it. -/
theorem tickKeepsTheCoreAndPrg : Obligations.TickKeepsTheCoreAndPrg := by
  intro n s
  obtain ⟨reads, hreads⟩ := tick_mapper n s
  refine ⟨tick_cycles n s, tick_a n s, tick_x n s, tick_y n s, tick_sp n s, tick_p n s, tick_pc n s, tick_status n s,
    tick_extra n s, tick_ram n s, tick_cart n s, tick_devAnswers n s, tick_events n s, fun h => tick_nmiPending h n,
    prgOffset_tick n s, fun h => ?_, fun r h => ?_, fun r h => ?_, fun r h => ?_, fun i rest h => ?_⟩
  · rw [hreads, h]; rfl
  · rw [hreads, h]; rfl
  · obtain ⟨l, m, latches⟩ := foldl_touchLatch_latches 1 reads r
    exact ⟨l, m, by rw [hreads, h, mapperAfterChr, latches]⟩
  · obtain ⟨l, m, latches⟩ := foldl_touchLatch_latches 8 reads r
    exact ⟨l, m, by rw [hreads, h, mapperAfterChr, latches]⟩
  · rw [tick_stated h, foldl_readChr_mapper]

end Sys2Proof.Machine

namespace Sys2Proof

/-! ### Words and their bytes (00_scope.md R7, 20_memory.md R63) -/

theorem lo_toNat (w : Word) : (lo w).toNat = w.toNat % 256 := BitVec.toNat_setWidth 8 w

theorem hi_toNat (w : Word) : (hi w).toNat = w.toNat / 256 := by
  have top : w.toNat < 65536 := w.isLt
  rw [hi, BitVec.toNat_setWidth, BitVec.toNat_ushiftRight, Nat.shiftRight_eq_div_pow]
  omega

@[simp] theorem lo_wordOf (h l : Byte) : lo (wordOf h l) = l := BitVec.setWidth_append_eq_right

@[simp] theorem hi_wordOf (h l : Byte) : hi (wordOf h l) = h := by
  apply BitVec.eq_of_toNat_eq
  have low : l.toNat < 256 := l.isLt
  rw [hi_toNat, Machine.wordOf_toNat]
  omega

@[simp] theorem wordOf_hi_lo (w : Word) : wordOf (hi w) (lo w) = w := by
  apply BitVec.eq_of_toNat_eq
  rw [Machine.wordOf_toNat, hi_toNat, lo_toNat]
  omega

/-! ### The rows of the opcode table (30_encoding.md R124 to R128) -/

/-- The length of a mode is the opcode byte and the operand bytes of its format (R120, R124). -/
theorem Build.mode_length (b : Build) : b.mode.length = 1 + b.format.operandBytes := by
  cases b <;> rfl

/-- A row says its own opcode byte, and its format's length. -/
theorem lookup_code_length {op : Byte} {d : Descriptor} {b : Build} (h : lookup op = some (d, b)) :
    d.code = op ∧ d.length = 1 + b.format.operandBytes := by
  simp only [lookup, Params.optabPresent, if_true, Option.bind_eq_some_iff, Option.map_eq_some_iff, Prod.mk.injEq] at h
  obtain ⟨cell, -, time, -, rfl, rfl⟩ := h
  exact ⟨rfl, cell.2.mode_length⟩

/-- The two matrices agree on where a penalty class stands, at each of the 256 bytes (40 R157). -/
theorem lookup_wf {op : Byte} {d : Descriptor} {b : Build} (h : lookup op = some (d, b)) : d.wf = true := by
  have rows : ∀ op : Byte, ((lookup op).all fun row => row.1.wf) = true := by decide
  simpa [h] using rows op

/-! ### The encoder against the table (30_encoding.md R120 to R123) -/

/-- An instruction of a format's row, by what the encoder makes of the row at every operand: the opcode byte alone (F1),
the operand byte after it (F2), or the two bytes of the operand, low byte first (F3). -/
inductive Format.Encodes (op : Byte) : Format → Instr → Prop where
  | f1 {i : Instr} (bytes : encode i = [op]) : Encodes op (.f1 i) i
  | f2 {f : Byte → Instr} (bytes : ∀ v, encode (f v) = [op, v]) (v : Byte) : Encodes op (.f2 f) (f v)
  | f3 {f : Word → Instr} (bytes : ∀ w, encode (f w) = [op, lo w, hi w]) (w : Word) : Encodes op (.f3 f) (f w)

/-- Every instruction stands in the row of its opcode byte, and is encoded as that row's format has it. -/
theorem encodes_row (i : Instr) :
    ∃ op d b, (encode i).head? = some op ∧ lookup op = some (d, b) ∧ b.format.Encodes op i := by
  cases i <;> refine ⟨_, _, _, rfl, rfl, ?_⟩
  -- The row's format picks the constructor, and the bytes are the encoder's line of the instruction.
  all_goals constructor
  all_goals intros; rfl

theorem Format.Encodes.length {op : Byte} {fmt : Format} {i : Instr} (h : fmt.Encodes op i) :
    (encode i).length = 1 + fmt.operandBytes := by
  cases h with
  | f1 bytes => rw [bytes]; rfl
  | f2 bytes v => rw [bytes]; rfl
  | f3 bytes w => rw [bytes]; rfl

/-- What the encoder makes of a row the decoder undoes, whatever bytes follow. -/
theorem decode_encode_of_row {op : Byte} {d : Descriptor} {b : Build} {i : Instr} (row : lookup op = some (d, b))
    (h : b.format.Encodes op i) (rest : List Byte) : decode (encode i ++ rest) = .ok (i, rest) := by
  generalize hf : b.format = fmt at h
  cases h with
  | f1 bytes => simp [bytes, decode, row, hf]
  | f2 bytes v => simp [bytes, decode, row, hf]
  | f3 bytes w => simp [bytes, decode, row, hf]

theorem decode_encode (i : Instr) (rest : List Byte) : decode (encode i ++ rest) = .ok (i, rest) := by
  obtain ⟨op, d, b, -, row, h⟩ := encodes_row i
  exact decode_encode_of_row row h rest

/-- Settles O1: well-formedness is not needed, every instruction being encoded as its row's format has it. -/
theorem encodeThenDecodeGivesInstr : Obligations.EncodeThenDecodeGivesInstr :=
  fun i rest _ => decode_encode i rest

/-- Every opcode byte begins the encoding of an instruction, the one the decoder reads of it at operand 0 (R128). -/
theorem exists_encode_head (op : Byte) : ∃ i, (encode i).head? = some op := by
  have readsBack : ∀ op : Byte, ((decodeTableWord 8 op.toNat).bind fun i => (encode i).head?) = some op := by decide
  obtain ⟨i, -, head⟩ := Option.bind_eq_some_iff.1 (readsBack op)
  exact ⟨i, head⟩

/-- A row whose encodings begin with an opcode byte has one for any two bytes that come after it. -/
theorem Format.Encodes.exists_prefix {op : Byte} {fmt : Format} {i : Instr} (h : fmt.Encodes op i) (low high : Byte)
    (rest : List Byte) : ∃ j r, encode j ++ r = op :: low :: high :: rest := by
  cases h with
  | f1 bytes => exact ⟨i, low :: high :: rest, by simp [bytes]⟩
  | @f2 f bytes _ => exact ⟨f low, high :: rest, by simp [bytes]⟩
  | @f3 f bytes _ => exact ⟨f (wordOf high low), rest, by simp [bytes]⟩

/-- Settles O3: any three bytes begin with an encoding, and the decoder reads that back. -/
theorem everyByteStringDecodes : Obligations.EveryByteStringDecodes := by
  intro op l h rest
  obtain ⟨i, head⟩ := exists_encode_head op
  obtain ⟨op', d, b, head', -, row⟩ := encodes_row i
  obtain rfl : op' = op := Option.some.inj (head'.symm.trans head)
  obtain ⟨j, r, bytes⟩ := row.exists_prefix l h rest
  exact ⟨j, r, bytes ▸ decode_encode j r, bytes⟩

/-- Settles O2: the row of the instruction is self-consistent, and its encoding has the row's opcode byte and length. -/
theorem everyInstrIsWellFormed : Obligations.EveryInstrIsWellFormed := by
  intro i
  obtain ⟨op, d, b, head, row, h⟩ := encodes_row i
  obtain ⟨code, length⟩ := lookup_code_length row
  have fits : d.fits (encode i) = true := by simp [Descriptor.fits, head, code, length, h.length]
  simp [Instr.wf, head, row, lookup_wf row, fits]

/-- Settles O4: each word, decoded by evaluation. -/
theorem specWordsDecode : Obligations.SpecWordsDecode :=
  ⟨rfl, rfl, rfl, rfl, rfl, rfl, rfl, rfl, rfl, rfl, rfl, rfl, rfl⟩

end Sys2Proof

namespace Sys2Proof

/-! ### Pages and extensions (00_scope.md R7) -/

@[simp] theorem zext16_toNat (v : Byte) : (zext16 v).toNat = v.toNat :=
  BitVec.toNat_setWidth_of_le (by decide)

theorem sext16_toNat (v : Byte) : ((sext16 v).toNat : Int) = v.toInt % 65536 := by
  have word : (sext16 v).toInt = v.toInt := BitVec.toInt_signExtend_of_le (by decide)
  have wraps := BitVec.toInt_eq_toNat_cond (sext16 v)
  have top : (sext16 v).toNat < 65536 := (sext16 v).isLt
  split at wraps <;> omega

/-- A page is named by its high byte: clearing the low byte shifts it out and zeros in. -/
theorem page_toNat (w : Word) : (page w).toNat = w.toNat / 256 * 256 := by
  have cleared : page w = (w >>> 8) <<< 8 := by
    apply BitVec.eq_of_getLsbD_eq
    intro k hk
    interval_cases k <;> simp [page]
  have top : w.toNat < 65536 := w.isLt
  rw [cleared, BitVec.toNat_shiftLeft, BitVec.toNat_ushiftRight, Nat.shiftRight_eq_div_pow, Nat.shiftLeft_eq]
  omega

theorem page_eq_page_iff (v w : Word) : page v = page w ↔ v.toNat / 256 = w.toNat / 256 := by
  rw [← BitVec.toNat_inj, page_toNat, page_toNat]
  omega

end Sys2Proof

namespace Sys2Proof.Machine

/-! ### The addressing modes (40_execution_and_addressing.md R160 to R171) -/

/-- A displacement is a signed byte, added modulo 65536 (R171). -/
theorem add_sext16_toNat (a : Word) (d : Byte) :
    ((a + 1 + sext16 d).toNat : Int) = ((a.toNat : Int) + 1 + d.toInt) % 65536 := by
  have displacement := sext16_toNat d
  have sum : (a + 1 + sext16 d).toNat = (a.toNat + 1 + (sext16 d).toNat) % 65536 := by simp
  omega

/-- An index added to a 16-bit base, with the charge as a term of extra (R166, R167, R170). -/
theorem indexed_eq (base : Word) (index : Byte) (s : State) :
    indexed base index s =
      (base + zext16 index,
       { s with extra := s.extra + if (base + zext16 index).toNat / 256 ≠ base.toNat / 256 then 1 else 0 }) := by
  simp only [indexed, ne_eq, page_eq_page_iff]
  by_cases same : (base + zext16 index).toNat / 256 = base.toNat / 256
  · rw [if_neg (not_not_intro same), if_neg (not_not_intro same)]
    rfl
  · rw [if_pos same, if_pos same]

theorem add_zext16_toNat (base : Word) (index : Byte) :
    (base + zext16 index).toNat = (base.toNat + index.toNat) % 65536 := by
  simp

/-- Zero page lies in RAM, so a read of it leaves the machine (20_memory.md R51, R54). -/
theorem memRead_zeroPage (p : Byte) (s : State) : memRead (zext16 p) s = (s.ram.read p.toNat, s) := by
  have low : p.toNat < 256 := p.isLt
  have inRam : regionOf (zext16 p) = .ram := by
    rw [regionOf_eq_ram_iff, zext16_toNat]
    omega
  rw [memRead_of_ram inRam, ramIndex_eq_mod, zext16_toNat, Nat.mod_eq_of_lt (by omega)]

/-- A zero-page pointer is a pair of RAM bytes, and reading it leaves the machine (R169, R170). -/
theorem zeroPagePointer_eq (p : Byte) (s : State) :
    zeroPagePointer p s = (wordOf (s.ram.read ((p.toNat + 1) % 256)) (s.ram.read p.toNat), s) := by
  simp only [zeroPagePointer, memRead_zeroPage, BitVec.toNat_add]
  rfl

theorem zeroPagePointer_toNat (p : Byte) (s : State) :
    (zeroPagePointer p s).1.toNat =
      (s.ram.read ((p.toNat + 1) % 256)).toNat * 256 + (s.ram.read p.toNat).toNat := by
  rw [zeroPagePointer_eq, wordOf_toNat, Nat.mul_comm]

/-- The operand byte is read at the resolved address, on the machine the resolver leaves (R179). -/
theorem readOperand_of_resolve {o : Operand} {s u : State} {a : Word} (h : o.mode ≠ .immediate)
    (hr : resolve o s = .ok (a, u)) : readOperand o s = .ok (memRead a u) := by
  cases o with
  | immediate v => exact absurd rfl h
  | _ => simp only [readOperand, hr]

/-- Settles O41: each mode's equation of the resolver, with its sum said in numbers. -/
theorem directModesAddress : Obligations.DirectModesAddress := fun s b _ =>
  ⟨rfl, ⟨_, rfl, zext16_toNat b⟩, ⟨_, rfl, (zext16_toNat _).trans (BitVec.toNat_add b s.x)⟩,
   ⟨_, rfl, (zext16_toNat _).trans (BitVec.toNat_add b s.y)⟩, rfl, ⟨_, rfl, add_sext16_toNat s.pc b⟩, rfl⟩

/-- Settles O42: the three modes that index by the one lemma on indexing, the two that read a pointer by the one lemma
on zero-page pointers. -/
theorem indexedAndPointerModesAddress : Obligations.IndexedAndPointerModesAddress := by
  intro s b w
  refine ⟨⟨_, add_zext16_toNat w s.x, ?_⟩, ⟨_, add_zext16_toNat w s.y, ?_⟩, ?_, ?_,
    fun _ _ _ => readOperand_of_resolve⟩
  · rw [resolve, indexed_eq]
  · rw [resolve, indexed_eq]
  · refine ⟨(zeroPagePointer (b + s.x) s).1, by rw [resolve, zeroPagePointer_eq], ?_⟩
    rw [zeroPagePointer_toNat, BitVec.toNat_add, Nat.mod_add_mod]
  · refine ⟨(zeroPagePointer b s).1.toNat, _, zeroPagePointer_toNat b s, add_zext16_toNat _ s.y, ?_⟩
    rw [resolve, indexed_eq, zeroPagePointer_eq, BitVec.ofNat_toNat, BitVec.setWidth_eq]

/-! ### The stack as a list (R173, R174, 10_state.md R21) -/

/-- A pop after a push takes the byte back and restores SP; the byte stays in RAM. -/
theorem pop_push (v : Byte) (s : State) :
    pop (push v s) = (v, { s with ram := s.ram.write (256 + s.sp.toNat) v }) := by
  rw [push_eq, pop_eq]
  simp [Memory.read_write]

theorem pushAll_concat (vs : List Byte) (v : Byte) (s : State) : pushAll (vs ++ [v]) s = push v (pushAll vs s) :=
  List.foldl_concat ..

/-- A RAM byte that none of the pops reads may be any byte. -/
theorem popAll_write (n k : Nat) (v : Byte) (s : State)
    (unread : ∀ j, 1 ≤ j → j ≤ n → k ≠ 256 + (s.sp.toNat + j) % 256) :
    popAll n { s with ram := s.ram.write k v } =
      ((popAll n s).1, { (popAll n s).2 with ram := s.ram.write k v }) := by
  induction n generalizing s with
  | zero => rfl
  | succ n ih =>
    have first : 256 + (s.sp + 1).toNat ≠ k := fun h => unread 1 (by omega) (by omega) h.symm
    have rest := ih { s with sp := s.sp + 1 } fun j low high => by
      have shifted : (s.sp + 1).toNat = (s.sp.toNat + 1) % 256 := BitVec.toNat_add s.sp 1
      have := unread (j + 1) (by omega) (by omega)
      dsimp only
      omega
    simp only [popAll, pop_eq, Memory.read_write, if_neg first, rest]

/-- At most 256 bytes pushed come back in reverse order: the last push stores where none of the at most 255 other pops
reads. -/
theorem popAll_pushAll (vs : List Byte) (s : State) (h : vs.length ≤ 256) :
    (popAll vs.length (pushAll vs s)).1 = vs.reverse ∧ (popAll vs.length (pushAll vs s)).2.sp = s.sp := by
  induction vs using List.reverseRecOn with
  | nil => exact ⟨rfl, rfl⟩
  | append_singleton vs v ih =>
    rw [List.length_append, List.length_singleton] at h ⊢
    obtain ⟨bytes, sp⟩ := ih (by omega)
    have unread := popAll_write vs.length (256 + (pushAll vs s).sp.toNat) v (pushAll vs s) fun j low high => by
      have := (pushAll vs s).sp.isLt
      omega
    rw [pushAll_concat]
    simp only [popAll, pop_push, unread, bytes, sp, List.reverse_concat, and_self]

/-- Settles O47: the equations of push and pop said in numbers, and the round trip of a list. -/
theorem stackIsLifoAndWraps : Obligations.StackIsLifoAndWraps := by
  refine ⟨fun v s => ⟨?_, fun k => ?_, ?_, ?_⟩, popAll_pushAll⟩
  · rw [push_eq, BitVec.toNat_sub, Nat.add_comm]
    rfl
  · rw [push_eq]
    exact Memory.read_write ..
  · rw [pop_eq, BitVec.toNat_add]
    rfl
  · rw [pop_eq]
    exact BitVec.toNat_add s.sp 1

/-! ### The decoded instruction of a fetch (R153 to R156) -/

/-- A read depends neither on pc nor on the extra cycles, and leaves them. -/
theorem memRead_with_pc_extra (a : Word) (s : State) (pc : Word) (extra : Nat) :
    memRead a { s with pc := pc, extra := extra } =
      ((memRead a s).1, { (memRead a s).2 with pc := pc, extra := extra }) := by
  rw [memRead_with a s s.p pc extra, ← memRead_p a s]

theorem readBytes_length (n : Nat) (a : Word) (s : State) : (readBytes n a s).1.length = n := by
  induction n generalizing a s with
  | zero => rfl
  | succ n ih => rw [readBytes, List.length_cons, ih]

/-- The decoder takes all bytes after an opcode byte where they are none (F1), one (F2) or two (F3), as the row's format
has it (30_encoding.md R121 to R125). -/
theorem decode_whole {op : Byte} {d : Descriptor} {b : Build} {operand : List Byte} {i : Instr}
    (row : lookup op = some (d, b)) (decoded : decode (op :: operand) = .ok (i, [])) :
    b.format = .f1 i ∧ operand = [] ∨
    (∃ f v, b.format = .f2 f ∧ operand = [v] ∧ i = f v) ∨
    ∃ f l h, b.format = .f3 f ∧ operand = [l, h] ∧ i = f (wordOf h l) := by
  simp only [decode, row] at decoded
  split at decoded
  case h_1 j format => cases decoded; exact .inl ⟨format, rfl⟩
  case h_2 f v rest format => cases decoded; exact .inr (.inl ⟨f, v, format, rfl, rfl⟩)
  case h_3 f l h rest format => cases decoded; exact .inr (.inr ⟨f, l, h, format, rfl, rfl⟩)
  -- Too few bytes for the format: the decoder answers an error.
  all_goals cases decoded

/-- Where the bytes after an opcode byte are the operand the decoder takes, the operand fetch reads those bytes and
makes of them what the decoder does. -/
theorem fetchOperand_of_decode {op : Byte} {d : Descriptor} {b : Build} {operand : List Byte} {i : Instr} {n : Nat}
    {a : Word} {s u : State} (row : lookup op = some (d, b)) (decoded : decode (op :: operand) = .ok (i, []))
    (reads : readBytes n a s = (operand, u)) (extra : Nat) :
    fetchOperand b.format { s with pc := a, extra := extra } = (i, { u with pc := a, extra := extra }) := by
  obtain rfl : operand.length = n := by rw [← readBytes_length n a s, reads]
  rcases decode_whole row decoded with ⟨format, rfl⟩ | ⟨f, v, format, rfl, rfl⟩ | ⟨f, l, h, format, rfl, rfl⟩
  · obtain rfl : s = u := congrArg Prod.snd reads
    rw [format]
    rfl
  · simp only [List.length, readBytes, Prod.mk.injEq, List.cons.injEq, and_true] at reads
    obtain ⟨rfl, rfl⟩ := reads
    simp only [format, fetchOperand, memRead_with_pc_extra]
  · simp only [List.length, readBytes, Prod.mk.injEq, List.cons.injEq, and_true] at reads
    obtain ⟨⟨rfl, rfl⟩, rfl⟩ := reads
    simp only [format, fetchOperand, memRead16, memRead_with_pc_extra]

/-- Steps 3 to 5 leave pc one past the opcode byte, and extra 0 unless they stop at step 4 (R153 to R155). -/
theorem resetExtra_fetchOpcode (d : Descriptor) (s : State) :
    resetExtra d (fetchOpcode s).2 =
      { (memRead s.pc s).2 with
        pc := s.pc + 1, extra := if d.mnemonic.unsupported then (memRead s.pc s).2.extra else 0 } := by
  unfold resetExtra
  split <;> rfl

theorem fetch_of_lookup {s : State} {d : Descriptor} {b : Build} (row : lookup (memRead s.pc s).1 = some (d, b)) :
    fetch s =
      .instr (fetchOperand b.format (resetExtra d (fetchOpcode s).2)).1 d
        (if d.mnemonic.unsupported then resetExtra d (fetchOpcode s).2
         else (fetchOperand b.format (resetExtra d (fetchOpcode s).2)).2) := by
  simp only [fetch, fetchOpcode, row]

/-- The instruction fetched is the one decoded from the bytes at pc. -/
theorem fetch_of_decode {s u : State} {n : Nat} {op : Byte} {operand : List Byte} {i : Instr} {d : Descriptor}
    {b : Build} (reads : readBytes (n + 1) s.pc s = (op :: operand, u))
    (decoded : decode (op :: operand) = .ok (i, [])) (row : lookup op = some (d, b)) :
    fetch s =
      .instr i d (
        if d.mnemonic.unsupported then { (memRead s.pc s).2 with pc := s.pc + 1 }
        else { u with pc := s.pc + 1, extra := 0 }) := by
  simp only [readBytes, Prod.mk.injEq, List.cons.injEq] at reads
  obtain ⟨⟨rfl, operandBytes⟩, left⟩ := reads
  have operandFetch := fetchOperand_of_decode row decoded (Prod.ext operandBytes left)
  rw [fetch_of_lookup row, resetExtra_fetchOpcode, operandFetch]
  split <;> rfl

theorem step_running {s : State} (h : s.status = .running) : step s = runFetched (fetch (pollInterrupts s)) := by
  unfold step; rw [h]

/-- Settles O5: the fetch finds the decoded instruction, which the iteration then runs. -/
theorem stepRunsDecodedInstruction : Obligations.StepRunsDecodedInstruction := by
  intro s n op operand i d b u running reads decoded _ row
  rw [step_running running, fetch_of_decode reads decoded row]
  rfl

end Sys2Proof.Machine

namespace Sys2Proof.Machine

/-! ### The rows of the forms (30_encoding.md R121 to R128) -/

/-- A form stands in the table as listed where the encoder writes its bytes and the row of its opcode byte is the one it
says. The form is written out, so that the opcode byte the table is looked up at is a numeral. -/
theorem Form.listed_of_row {i : Instr} {o : Operand} {op : Byte} {len cyc : Nat} {pen : Penalty} {mnemonic : Mnemonic}
    {b : Build} (bytes : encode i = op :: o.bytes) (length : (encode i).length = len)
    (row : lookup op = some (⟨op, mnemonic, len, cyc, pen, o.mode⟩, b)) : (Form.mk i o op len cyc pen).Listed :=
  ⟨bytes, length, _, _, row, rfl, rfl, rfl, rfl, rfl⟩

/-- A row's length is its mode's (R124). -/
theorem lookup_length {op : Byte} {d : Descriptor} {b : Build} (h : lookup op = some (d, b)) :
    d.length = d.mode.length := by
  simp only [lookup, Params.optabPresent, if_true, Option.bind_eq_some_iff, Option.map_eq_some_iff, Prod.mk.injEq] at h
  obtain ⟨cell, -, time, -, rfl, -⟩ := h
  rfl

/-- The operand bytes of a listed form are all its bytes but the opcode byte. -/
theorem Form.Listed.size {f : Form} (h : f.Listed) : f.o.size = f.len - 1 := by
  obtain ⟨-, -, d, b, row, -, length, -, -, mode⟩ := h
  rw [Operand.size, ← mode, ← lookup_length row, length]

/-- A form of an operation in every mode: listed, with an address, and executed as the operation at its operand. -/
structure Form.Runs (f : Form) (op : Operand → State → Out) : Prop where
  listed      : f.Listed
  addressable : f.o.addressable = true
  meaning     : ∀ s, exec f.i s = op f.o s

/-! ### Frames -/

theorem Keeps.trans {regs : List Reg} {flags : List Flag} {s t u : State} (h : Keeps regs flags s t)
    (k : Keeps regs flags t u) : Keeps regs flags s u :=
  ⟨fun r hr => (k.otherRegs r hr).trans (h.otherRegs r hr), fun f hf => (k.otherFlags f hf).trans (h.otherFlags f hf),
   k.status.trans h.status, k.cycles.trans h.cycles, k.nmiPending.trans h.nmiPending, k.irqPending.trans h.irqPending,
   k.cart.trans h.cart, k.tickInputs.trans h.tickInputs⟩

/-- The resolver and the operand read leave every register and flag. -/
theorem Touched.keeps {s t : State} (h : Touched s t) (regs : List Reg) (flags : List Flag) : Keeps regs flags s t := by
  obtain ⟨extra, answers, draws, events, rfl⟩ := h
  exact ⟨fun r _ => by cases r <;> rfl, fun _ _ => rfl, rfl, rfl, rfl, rfl, rfl, rfl⟩

theorem Touched.sameMemory {s t : State} (h : Touched s t) : SameMemory s t := by
  obtain ⟨extra, answers, draws, events, rfl⟩ := h
  exact ⟨fun _ => rfl, rfl⟩

theorem Touched.pc {s t : State} (h : Touched s t) : t.pc = s.pc := by
  obtain ⟨extra, answers, draws, events, rfl⟩ := h
  rfl

/-- A write compared with the machine before the address was resolved. -/
theorem Touched.stored {s u t : State} {ea : Word} {v : Byte} (h : Touched s u) (k : Stored ea v u u t) :
    Stored ea v s u t := by
  obtain ⟨extra, answers, draws, events, rfl⟩ := h
  exact k

theorem advance_keeps (o : Operand) (s : State) (regs : List Reg) (flags : List Flag) :
    Keeps regs flags s (advance o s) :=
  ⟨fun r _ => by cases r <;> rfl, fun _ _ => rfl, rfl, rfl, rfl, rfl, rfl, rfl⟩

/-- A listed form's fall-through is pc_next (40 R180). -/
theorem Form.Listed.advance_pc {f : Form} (h : f.Listed) (s : State) :
    (advance f.o s).pc = s.pc + BitVec.ofNat 16 (f.len - 1) := by
  rw [Machine.advance_pc, h.size]

/-- What an instruction does between its reads and its fall-through: the registers and flags named may change; the
others, memory, the record of the environment and pc stay. -/
structure Computes (regs : List Reg) (flags : List Flag) (s t : State) : Prop where
  keeps  : Keeps regs flags s t
  memory : SameMemory s t
  record : SameRecord s t
  pc     : t.pc = s.pc

/-! ### One register and P written -/

/-- The machine with a register and P written. -/
def writeReg (r : Reg) (v p : Byte) (s : State) : State :=
  match r with
  | .a => { s with a := v, p := p }
  | .x => { s with x := v, p := p }
  | .y => { s with y := v, p := p }
  | .sp => { s with sp := v, p := p }

theorem get_writeReg (q r : Reg) (v p : Byte) (s : State) :
    q.get (writeReg r v p s) = if q = r then v else q.get s := by
  cases q <;> cases r <;> rfl

@[simp] theorem get_writeReg_same (r : Reg) (v p : Byte) (s : State) : r.get (writeReg r v p s) = v := by
  rw [get_writeReg, if_pos rfl]

@[simp] theorem writeReg_p (r : Reg) (v p : Byte) (s : State) : (writeReg r v p s).p = p := by
  cases r <;> rfl

theorem writeReg_computes (r : Reg) (v : Byte) {p : Byte} {flags : List Flag} {s : State}
    (others : ∀ f, f ∉ flags → getFlag f p = getFlag f s.p) : Computes [r] flags s (writeReg r v p s) := by
  have otherRegs (q : Reg) (hq : q ∉ [r]) : q.get (writeReg r v p s) = q.get s := by
    rw [get_writeReg, if_neg (List.mem_singleton.not.1 hq)]
  cases r <;> exact ⟨⟨otherRegs, others, rfl, rfl, rfl, rfl, rfl, rfl⟩, ⟨fun _ => rfl, rfl⟩, ⟨rfl, rfl, rfl, rfl⟩, rfl⟩

/-- SetNZ leaves the flags but Z and N (40 R177). -/
theorem setNZ_otherFlags (v p : Byte) (f : Flag) (h : f ∉ [Flag.Z, Flag.N]) : getFlag f (setNZ v p) = getFlag f p := by
  simp only [List.mem_cons, List.not_mem_nil, or_false, not_or] at h
  rw [getFlag_setNZ, if_neg h.2, if_neg h.1]

/-- Z and N follow the byte that SetNZ was given last. -/
theorem nz_of_p_eq {v p : Byte} {t : State} (h : t.p = setNZ v p) : NZ v t := by
  simp only [NZ, h, getFlag_setNZ, reduceCtorEq, if_true, if_false, byte_bit7, and_self]

/-! ### The effects of a form -/

/-- A form that reads its operand and then computes. -/
theorem Form.Runs.reads {f : Form} {s : State} {g : Byte → State → State} {regs : List Reg} {flags : List Flag}
    {post : Byte → State → Prop}
    (runs : f.Runs fun o s => withOperand o s fun m t => .next (advance o (g m t)))
    (computes : ∀ m u, Computes regs flags u (g m u))
    (result : ∀ m u, Touched s u → post m (advance f.o (g m u))) : f.Listed ∧ f.Reads s regs flags post := by
  obtain ⟨m, u, read, touched⟩ := readOperand_ok f.o s runs.addressable
  obtain ⟨keeps, memory, record, pc⟩ := computes m u
  refine ⟨runs.listed, m, u, advance f.o (g m u), read, ?_, result m u touched, ?_, ?_, ?_, record⟩
  · rw [runs.meaning, withOperand_eq read]
  · rw [runs.listed.advance_pc, pc, touched.pc]
  · exact ((touched.keeps regs flags).trans keeps).trans (advance_keeps _ _ _ _)
  · exact ⟨fun k => (memory.1 k).trans (touched.sameMemory.1 k), memory.2.trans touched.sameMemory.2⟩

/-- A form that stores a byte at its effective address, where it makes no read. -/
theorem Form.Runs.stores {f : Form} {s : State} {v : Byte} {op : Operand → State → Out} (runs : f.Runs op)
    (stores : op f.o s = store v f.o s) : f.Listed ∧ f.Stores s v := by
  obtain ⟨ea, u, resolved, touched⟩ := resolve_ok f.o s runs.addressable
  refine ⟨runs.listed, ea, u, advance f.o (memWrite ea v u), resolved, ?_,
    touched.stored (memWrite_stored ea v u), ?_, ?_⟩
  · rw [runs.meaning, stores, store_eq resolved]
  · rw [runs.listed.advance_pc, memWrite_pc, touched.pc]
  · exact ((touched.keeps [] []).trans (memWrite_keeps ea v u)).trans (advance_keeps _ _ _ _)

/-- A form that computes and touches no bus. -/
theorem Form.Listed.internal {f : Form} {s t : State} {regs : List Reg} {flags : List Flag} {post : State → Prop}
    (listed : f.Listed) (meaning : exec f.i s = .next (advance f.o t)) (computes : Computes regs flags s t)
    (result : post (advance f.o t)) : f.Listed ∧ f.Internal s regs flags post := by
  obtain ⟨keeps, memory, record, pc⟩ := computes
  refine ⟨listed, advance f.o t, meaning, result, ?_, keeps.trans (advance_keeps _ _ _ _), memory, record⟩
  rw [listed.advance_pc, pc]

/-! ### Loads (41 R200 to R202) -/

/-- The load of a register in every mode: LDA, LDX and LDY, as the register is A, X or Y. -/
def loadReg (r : Reg) (o : Operand) (s : State) : Out :=
  withOperand o s fun m t => .next (advance o (writeReg r m (setNZ m t.p) t))

theorem loadA_eq : loadA = loadReg .a := rfl
theorem loadX_eq : loadX = loadReg .x := rfl
theorem loadY_eq : loadY = loadReg .y := rfl

/-- A register, Z and N follow the byte written to it with SetNZ. -/
theorem writeReg_setNZ_result (r : Reg) (v p : Byte) (o : Operand) (s : State) :
    r.get (advance o (writeReg r v (setNZ v p) s)) = v ∧ NZ v (advance o (writeReg r v (setNZ v p) s)) :=
  ⟨((advance_keeps o _ [] []).otherRegs r List.not_mem_nil).trans (get_writeReg_same ..), nz_of_p_eq (writeReg_p ..)⟩

theorem Form.Runs.loads {f : Form} {r : Reg} (runs : f.Runs (loadReg r)) (s : State) :
    f.Listed ∧ f.Reads s [r] [.Z, .N] fun m t => r.get t = m ∧ NZ m t :=
  Form.Runs.reads runs (fun m u => writeReg_computes r m (setNZ_otherFlags m u.p))
    fun m u _ => writeReg_setNZ_result r m u.p f.o u

/-- The forms of the loads: the table, the encoder and exec, each at the form's constructor. -/
theorem loadForms_run (b : Byte) (w : Word) :
    (∀ f ∈ ldaForms b w, f.Runs loadA) ∧ (∀ f ∈ ldxForms b w, f.Runs loadX) ∧ ∀ f ∈ ldyForms b w, f.Runs loadY := by
  refine ⟨fun f hf => ?_, fun f hf => ?_, fun f hf => ?_⟩ <;> fin_cases hf
  all_goals exact ⟨Form.listed_of_row rfl rfl rfl, rfl, fun _ => rfl⟩

/-- Settles O15: every form runs the load of its register, whose effect is said once for all registers and modes. -/
theorem loadsSetRegisterAndNZ : Obligations.LoadsSetRegisterAndNZ := by
  intro s b w
  obtain ⟨lda, ldx, ldy⟩ := loadForms_run b w
  rw [loadA_eq] at lda
  rw [loadX_eq] at ldx
  rw [loadY_eq] at ldy
  exact ⟨fun f hf => (lda f hf).loads s, fun f hf => (ldx f hf).loads s, fun f hf => (ldy f hf).loads s⟩

/-! ### Stores (R203 to R205) -/

/-- The forms of the stores: the table, the encoder and exec, each at the form's constructor. -/
theorem storeForms_run (b : Byte) (w : Word) :
    (∀ f ∈ staForms b w, f.Runs storeA) ∧ (∀ f ∈ stxForms b w, f.Runs storeX) ∧ ∀ f ∈ styForms b w, f.Runs storeY := by
  refine ⟨fun f hf => ?_, fun f hf => ?_, fun f hf => ?_⟩ <;> fin_cases hf
  all_goals exact ⟨Form.listed_of_row rfl rfl rfl, rfl, fun _ => rfl⟩

/-- Settles O16: every form runs the store of its register, whose effect is said once for all modes. -/
theorem storesWriteOneByte : Obligations.StoresWriteOneByte := by
  intro s b w
  obtain ⟨sta, stx, sty⟩ := storeForms_run b w
  exact ⟨fun f hf => (sta f hf).stores rfl, fun f hf => (stx f hf).stores rfl, fun f hf => (sty f hf).stores rfl⟩

/-! ### Transfers (R206 to R211) -/

/-- A transfer with SetNZ: the destination, Z and N follow the source byte. -/
theorem Form.Listed.transfers {f : Form} {r : Reg} {v : Byte} {s : State} (listed : f.Listed)
    (meaning : exec f.i s = .next (advance f.o (writeReg r v (setNZ v s.p) s))) :
    f.Listed ∧ f.Internal s [r] [.Z, .N] fun t => r.get t = v ∧ NZ v t :=
  listed.internal meaning (writeReg_computes r v (setNZ_otherFlags v s.p)) (writeReg_setNZ_result r v s.p f.o s)

/-- Settles O17: each transfer writes one register from another, with SetNZ in all but TXS. -/
theorem transfersCopyARegister : Obligations.TransfersCopyARegister := by
  intro s
  refine ⟨List.forall_mem_singleton.2 ?tax, List.forall_mem_singleton.2 ?tay, List.forall_mem_singleton.2 ?txa,
    List.forall_mem_singleton.2 ?tya, List.forall_mem_singleton.2 ?tsx, List.forall_mem_singleton.2 ?txs⟩
  case txs =>
    exact (Form.listed_of_row rfl rfl rfl).internal rfl (writeReg_computes .sp s.x fun _ _ => rfl) rfl
  all_goals exact (Form.listed_of_row rfl rfl rfl).transfers rfl

end Sys2Proof.Machine

namespace Sys2Proof.Machine

/-! ### Bytes as numbers (42 R220, R231, R232) -/

theorem byte_bit6 (v : Byte) : v.getLsbD 6 = decide (64 ≤ v.toNat % 128) := by
  rw [BitVec.getLsbD, Nat.testBit_eq_decide_div_mod_eq, decide_eq_decide]
  omega

theorem byte_toInt (v : Byte) : v.toInt = if 128 ≤ v.toNat then (v.toNat : Int) - 256 else v.toNat := by
  rw [BitVec.toInt_eq_toNat_cond]
  split <;> split <;> omega

theorem byte_add_one_toNat (v : Byte) : (v + 1).toNat = (v.toNat + 1) % 256 := BitVec.toNat_add v 1

theorem byte_sub_one_toNat (v : Byte) : (v - 1).toNat = (v.toNat + 255) % 256 := by
  rw [Nat.add_comm]
  exact BitVec.toNat_sub v 1

/-- The one's complement that SBC hands the adder (R223). -/
theorem byte_xor_0xFF_toNat (m : Byte) : (m ^^^ 0xFF).toNat = 255 - m.toNat := by
  rw [show (0xFF : Byte) = BitVec.allOnes 8 from rfl, BitVec.xor_allOnes, BitVec.toNat_not]

/-! ### The adder, flag by flag (R220, R222) -/

theorem adcCore_toNat (a m p : Byte) :
    (adcCore a m p).1.toNat = (a.toNat + m.toNat + (getFlag .C p).toNat) % 256 := rfl

theorem adcCore_carry (a m p : Byte) :
    getFlag .C (adcCore a m p).2 = decide (255 < a.toNat + m.toNat + (getFlag .C p).toNat) := by
  simp [adcCore]

/-- V is set where A and M have one sign and the result has the other. -/
theorem adcCore_overflow (a m p : Byte) :
    getFlag .V (adcCore a m p).2 =
      decide ((128 ≤ a.toNat ↔ 128 ≤ m.toNat) ∧ ¬(128 ≤ a.toNat ↔ 128 ≤ (adcCore a m p).1.toNat)) := by
  have bit : getFlag .V (adcCore a m p).2 = (~~~(a ^^^ m) &&& (a ^^^ (adcCore a m p).1)).getLsbD 7 := by simp [adcCore]
  simp only [bit, BitVec.getLsbD_and, BitVec.getLsbD_not, BitVec.getLsbD_xor]
  simp only [byte_bit7]
  grind

theorem adcCore_otherFlags (a m p : Byte) (f : Flag) (h : f ∉ [Flag.C, .Z, .V, .N]) :
    getFlag f (adcCore a m p).2 = getFlag f p := by
  simp only [List.mem_cons, List.not_mem_nil, or_false, not_or] at h
  obtain ⟨c, z, v, n⟩ := h
  simp [adcCore, c, z, v, n]

theorem adcCore_nz {a m p : Byte} {t : State} (result : t.a = (adcCore a m p).1) (flags : t.p = (adcCore a m p).2) :
    NZ t.a t := by
  rw [result]
  exact nz_of_p_eq flags

/-- The adder adds: its V is that of the signed sum. -/
theorem added_of_adcCore {a m p : Byte} {t : State} (result : t.a = (adcCore a m p).1) (flags : t.p = (adcCore a m p).2) :
    Added a m (getFlag .C p) t := by
  refine ⟨?_, ?_, ?_, adcCore_nz result flags⟩
  · rw [result, adcCore_toNat]
  · rw [flags, adcCore_carry]
  · have := (getFlag .C p).toNat_lt
    rw [flags, adcCore_overflow, adcCore_toNat, decide_eq_decide, byte_toInt, byte_toInt]
    omega

/-! ### The subtraction (R223, R237) -/

theorem sbcCore_toNat (a m p : Byte) :
    (sbcCore a m p).1.toNat = (a.toNat + (255 - m.toNat) + (getFlag .C p).toNat) % 256 := by
  rw [sbcCore, adcCore_toNat, byte_xor_0xFF_toNat]

theorem sbcCore_otherFlags (a m p : Byte) (f : Flag) (h : f ∉ [Flag.C, .Z, .V, .N]) :
    getFlag f (sbcCore a m p).2 = getFlag f p :=
  adcCore_otherFlags a (m ^^^ 0xFF) p f h

/-- The adder subtracts when it is given the one's complement. -/
theorem subtracted_of_sbcCore {a m p : Byte} {t : State} (result : t.a = (sbcCore a m p).1)
    (flags : t.p = (sbcCore a m p).2) : Subtracted a m (getFlag .C p) t := by
  have difference := sbcCore_toNat a m p
  have := (getFlag .C p).toNat_lt
  have := m.isLt
  rw [← result] at difference
  refine ⟨?_, ?_, ?_, adcCore_nz result flags⟩
  · omega
  · rw [flags, sbcCore, adcCore_carry, byte_xor_0xFF_toNat, decide_eq_decide]
    omega
  · rw [flags, sbcCore, adcCore_overflow, byte_xor_0xFF_toNat, ← sbcCore, ← result, decide_eq_decide]
    omega

/-- What was added cancels out; the two carries remain. -/
theorem sbcCore_adcCore_toNat (a b p q : Byte) :
    (sbcCore (adcCore a b p).1 b q).1.toNat = (a.toNat + 255 + (getFlag .C p).toNat + (getFlag .C q).toNat) % 256 := by
  have := b.isLt
  rw [sbcCore_toNat, adcCore_toNat]
  omega

/-- Settles O59: the carries add up to 1 when they are complements, and to 0 or 2 when they are equal. -/
theorem adcThenSbcGivesA : Obligations.AdcThenSbcGivesA := by
  intro a b p q
  have := a.isLt
  rw [← BitVec.toNat_inj, ne_eq, ← BitVec.toNat_inj, sbcCore_adcCore_toNat]
  refine ⟨fun carry => ?_, fun carry => ?_⟩ <;> rw [carry] <;> cases getFlag .C p
  all_goals
    simp only [Bool.not_true, Bool.not_false, Bool.toNat_true, Bool.toNat_false]
    omega

/-! ### P alone written -/

/-- The machine with P written. -/
def State.withP (s : State) (p : Byte) : State := { s with p := p }

@[simp] theorem withP_a (s : State) (p : Byte) : (s.withP p).a = s.a := rfl
@[simp] theorem withP_x (s : State) (p : Byte) : (s.withP p).x = s.x := rfl
@[simp] theorem withP_y (s : State) (p : Byte) : (s.withP p).y = s.y := rfl
@[simp] theorem withP_p (s : State) (p : Byte) : (s.withP p).p = p := rfl
@[simp] theorem withP_pc (s : State) (p : Byte) : (s.withP p).pc = s.pc := rfl
@[simp] theorem withP_withP (s : State) (p q : Byte) : (s.withP p).withP q = s.withP q := rfl

@[simp] theorem writeReg_withP (r : Reg) (v p q : Byte) (s : State) : writeReg r v p (s.withP q) = writeReg r v p s := by
  cases r <;> rfl

@[simp] theorem withP_writeReg (r : Reg) (v p q : Byte) (s : State) : (writeReg r v p s).withP q = writeReg r v q s := by
  cases r <;> rfl

theorem advance_withP (o : Operand) (s : State) (p : Byte) : advance o (s.withP p) = (advance o s).withP p := rfl

theorem withP_computes {p : Byte} {flags : List Flag} {s : State}
    (others : ∀ f, f ∉ flags → getFlag f p = getFlag f s.p) : Computes [] flags s (s.withP p) :=
  ⟨⟨fun r _ => by cases r <;> rfl, others, rfl, rfl, rfl, rfl, rfl, rfl⟩, ⟨fun _ => rfl, rfl⟩, ⟨rfl, rfl, rfl, rfl⟩, rfl⟩

theorem Touched.p {s t : State} (h : Touched s t) : t.p = s.p := by
  obtain ⟨extra, answers, draws, events, rfl⟩ := h
  rfl

theorem Touched.get {s t : State} (h : Touched s t) (r : Reg) : r.get t = r.get s :=
  (h.keeps [] []).otherRegs r List.not_mem_nil

/-! ### Operations on A and the operand byte (R222 to R226, 46 R300) -/

theorem accumulate_eq {o : Operand} {s t : State} {m : Byte} (h : readOperand o s = .ok (m, t))
    (core : Byte → Byte → Byte → Byte × Byte) :
    accumulate core o s = .next (advance o (writeReg .a (core t.a m t.p).1 (core t.a m t.p).2 t)) :=
  withOperand_eq h _

/-- A form of an accumulator operation: A and P are the results of the core on A, the operand byte and P. -/
theorem Form.Runs.accumulates {f : Form} {core : Byte → Byte → Byte → Byte × Byte} {s : State} {flags : List Flag}
    {post : Byte → State → Prop} (runs : f.Runs (accumulate core))
    (others : ∀ a m p g, g ∉ flags → getFlag g (core a m p).2 = getFlag g p)
    (result : ∀ m t, t.a = (core s.a m s.p).1 → t.p = (core s.a m s.p).2 → post m t) :
    f.Listed ∧ f.Reads s [.a] flags post := by
  refine Form.Runs.reads runs (fun m u => writeReg_computes .a _ (others u.a m u.p)) fun m u touched => ?_
  have a : u.a = s.a := touched.get .a
  rw [a, touched.p]
  exact result m _ rfl rfl

/-- The forms of the operations on A: the table, the encoder and exec, each at the form's constructor. -/
theorem accumulateForms_run (b : Byte) (w : Word) :
    (∀ f ∈ adcForms b w, f.Runs addA) ∧ (∀ f ∈ sbcForms b w, f.Runs subtractA) ∧
    (∀ f ∈ sbcUndocumentedForms b, f.Runs subtractA) ∧ (∀ f ∈ andForms b w, f.Runs andA) ∧
    (∀ f ∈ oraForms b w, f.Runs orA) ∧ ∀ f ∈ eorForms b w, f.Runs xorA := by
  refine ⟨fun f hf => ?_, fun f hf => ?_, fun f hf => ?_, fun f hf => ?_, fun f hf => ?_, fun f hf => ?_⟩ <;> fin_cases hf
  all_goals exact ⟨Form.listed_of_row rfl rfl rfl, rfl, fun _ => rfl⟩

/-- Settles O18: every form is the adder on A, the operand byte and P. -/
theorem adcAddsWithCarry : Obligations.AdcAddsWithCarry := by
  intro s b w f hf
  obtain ⟨adc, -⟩ := accumulateForms_run b w
  exact (adc f hf).accumulates adcCore_otherFlags fun _ _ => added_of_adcCore

theorem Form.Runs.subtracts {f : Form} (runs : f.Runs subtractA) (s : State) :
    f.Listed ∧ f.Reads s [.a] [.C, .Z, .V, .N] fun m t => Subtracted s.a m (getFlag .C s.p) t :=
  Form.Runs.accumulates runs sbcCore_otherFlags fun _ _ => subtracted_of_sbcCore

/-- Settles O19: every form, EB among them, is the subtraction on A, the operand byte and P. -/
theorem sbcSubtractsWithBorrow : Obligations.SbcSubtractsWithBorrow := by
  intro s b w
  obtain ⟨-, sbc, sbcEB, -⟩ := accumulateForms_run b w
  exact ⟨fun f hf => (sbc f hf).subtracts s, fun f hf => (sbcEB f hf).subtracts s⟩

/-- A bitwise operation on A followed by SetNZ. -/
theorem Form.Runs.combines {f : Form} {op : Byte → Byte → Byte} {bit : Bool → Bool → Bool}
    (runs : f.Runs (accumulate fun a m p => (op a m, setNZ (op a m) p))) (s : State)
    (bits : ∀ a m k, (op a m).getLsbD k = bit (a.getLsbD k) (m.getLsbD k)) :
    f.Listed ∧ f.Reads s [.a] [.Z, .N] fun m t =>
      (∀ k, t.a.getLsbD k = bit (s.a.getLsbD k) (m.getLsbD k)) ∧ NZ t.a t :=
  runs.accumulates (fun a m p => setNZ_otherFlags (op a m) p) fun m t result flags => by
    rw [result]
    exact ⟨bits s.a m, nz_of_p_eq flags⟩

/-- Settles O20: every form is a bitwise operation followed by SetNZ. -/
theorem logicCombinesWithA : Obligations.LogicCombinesWithA := by
  intro s b w
  obtain ⟨-, -, -, and, ora, eor⟩ := accumulateForms_run b w
  exact ⟨fun f hf => Form.Runs.combines (and f hf) s fun _ _ _ => BitVec.getLsbD_and,
    fun f hf => Form.Runs.combines (ora f hf) s fun _ _ _ => BitVec.getLsbD_or,
    fun f hf => Form.Runs.combines (eor f hf) s fun _ _ _ => BitVec.getLsbD_xor⟩

/-! ### Tests and comparisons (R221, R227 to R230) -/

/-- A form that reads its operand and then writes P alone. -/
theorem Form.Runs.setsFlags {f : Form} {p : Byte → State → Byte} {s : State} {flags : List Flag}
    {post : Byte → State → Prop}
    (runs : f.Runs fun o s => withOperand o s fun m t => .next (advance o (t.withP (p m t))))
    (others : ∀ m u g, g ∉ flags → getFlag g (p m u) = getFlag g u.p)
    (result : ∀ m u t, Touched s u → t.p = p m u → post m t) : f.Listed ∧ f.Reads s [] flags post :=
  runs.reads (fun m u => withP_computes (others m u)) fun m u touched => result m u _ touched rfl

/-- The forms of BIT and the comparisons: the table, the encoder and exec, each at the form's constructor. -/
theorem testForms_run (b : Byte) (w : Word) :
    (∀ f ∈ bitForms b w, f.Runs testBits) ∧ (∀ f ∈ cmpForms b w, f.Runs compareA) ∧
    (∀ f ∈ cpxForms b w, f.Runs compareX) ∧ ∀ f ∈ cpyForms b w, f.Runs compareY := by
  refine ⟨fun f hf => ?_, fun f hf => ?_, fun f hf => ?_, fun f hf => ?_⟩ <;> fin_cases hf
  all_goals exact ⟨Form.listed_of_row rfl rfl rfl, rfl, fun _ => rfl⟩

/-- The flags of BIT, one by one (R227). -/
theorem getFlag_bitFlags (f : Flag) (a m p : Byte) :
    getFlag f (bitFlags a m p) =
      if f = .V then m.getLsbD 6 else if f = .N then m.getLsbD 7 else if f = .Z then decide (a &&& m = 0)
      else getFlag f p := by
  simp only [bitFlags, getFlag_setFlag]

theorem bitFlags_otherFlags (a m p : Byte) (f : Flag) (h : f ∉ [Flag.Z, .V, .N]) :
    getFlag f (bitFlags a m p) = getFlag f p := by
  simp only [List.mem_cons, List.not_mem_nil, or_false, not_or] at h
  obtain ⟨z, v, n⟩ := h
  rw [getFlag_bitFlags, if_neg v, if_neg n, if_neg z]

/-- Settles O21: every form writes the flags of BIT on A and the operand byte. -/
theorem bitTestsMemory : Obligations.BitTestsMemory := by
  intro s b w f hf
  obtain ⟨bit, -⟩ := testForms_run b w
  refine Form.Runs.setsFlags (bit f hf) (fun m u => bitFlags_otherFlags u.a m u.p) fun m u t touched flags => ?_
  have a : u.a = s.a := touched.get .a
  simp only [flags, a, getFlag_bitFlags, ← byte_bit7, ← byte_bit6, reduceCtorEq, if_true, if_false, and_self]

theorem cmpCore_otherFlags (r m p : Byte) (f : Flag) (h : f ∉ [Flag.C, .Z, .N]) :
    getFlag f (cmpCore r m p) = getFlag f p := by
  simp only [List.mem_cons, List.not_mem_nil, or_false, not_or] at h
  obtain ⟨c, z, n⟩ := h
  simp [cmpCore, c, z, n]

theorem compared_of_cmpCore {r m p : Byte} {t : State} (h : t.p = cmpCore r m p) : Compared r m t := by
  refine ⟨?carry, ?zero, ?negative⟩
  case carry => simp [h, cmpCore, BitVec.le_def]
  case zero => simp [h, cmpCore, BitVec.sub_eq_iff_eq_add]
  case negative =>
    have difference : (r - m).toNat = (r.toNat + 256 - m.toNat) % 256 := by
      have := m.isLt
      rw [BitVec.toNat_sub]
      omega
    rw [h, cmpCore, getFlag_setNZ, if_pos rfl, byte_bit7, difference]

theorem Form.Runs.compares {f : Form} (r : Reg) (runs : f.Runs (compare r.get)) (s : State) :
    f.Listed ∧ f.Reads s [] [.C, .Z, .N] fun m t => Compared (r.get s) m t :=
  Form.Runs.setsFlags runs (fun m u => cmpCore_otherFlags (r.get u) m u.p) fun m u t touched flags => by
    rw [touched.get r] at flags
    exact compared_of_cmpCore flags

/-- Settles O22: every form compares its register, whose effect is said once for all registers and modes. -/
theorem comparesSetCZN : Obligations.ComparesSetCZN := by
  intro s b w
  obtain ⟨-, cmp, cpx, cpy⟩ := testForms_run b w
  exact ⟨fun f hf => Form.Runs.compares .a (cmp f hf) s, fun f hf => Form.Runs.compares .x (cpx f hf) s,
    fun f hf => Form.Runs.compares .y (cpy f hf) s⟩

/-! ### Read-modify-write (40 R178, 42 R231, R232) -/

theorem Keeps.mono {regs regs' : List Reg} {flags flags' : List Flag} {s t : State} (h : Keeps regs flags s t)
    (regsSub : regs ⊆ regs') (flagsSub : flags ⊆ flags') : Keeps regs' flags' s t :=
  { h with
    otherRegs := fun r hr => h.otherRegs r fun mem => hr (regsSub mem)
    otherFlags := fun f hf => h.otherFlags f fun mem => hf (flagsSub mem) }

theorem Computes.refl (regs : List Reg) (flags : List Flag) (s : State) : Computes regs flags s s :=
  ⟨⟨fun _ _ => rfl, fun _ _ => rfl, rfl, rfl, rfl, rfl, rfl, rfl⟩, ⟨fun _ => rfl, rfl⟩, ⟨rfl, rfl, rfl, rfl⟩, rfl⟩

/-- A written byte stays so where memory and the record of the environment stay. -/
theorem Stored.same {ea : Word} {v : Byte} {s u t t' : State} (h : Stored ea v s u t) (memory : SameMemory t t')
    (record : SameRecord t t') : Stored ea v s u t' := by
  obtain ⟨ram, mapper, events, extra, answers, draws⟩ := h
  obtain ⟨sameRam, sameMapper⟩ := memory
  obtain ⟨sameExtra, sameAnswers, sameDraws, sameEvents⟩ := record
  exact ⟨fun k => (sameRam k).trans (ram k), sameMapper.trans mapper, sameEvents.trans events, sameExtra.trans extra,
    sameAnswers.trans answers, sameDraws.trans draws⟩

/-- The machine after the write of a read-modify-write and its flags. -/
def writeBack (ea : Word) (r p : Byte) (s : State) : State := (memWrite ea r s).withP p

@[simp] theorem writeBack_pc (ea : Word) (r p : Byte) (s : State) : (writeBack ea r p s).pc = s.pc := memWrite_pc ea r s

theorem writeBack_stored (ea : Word) (r p : Byte) (s : State) : Stored ea r s s (writeBack ea r p s) :=
  memWrite_stored ea r s

theorem writeBack_keeps (ea : Word) (r : Byte) {p : Byte} {flags : List Flag} {s : State}
    (others : ∀ f, f ∉ flags → getFlag f p = getFlag f s.p) : Keeps [] flags s (writeBack ea r p s) := by
  refine ((memWrite_keeps ea r s).mono (List.nil_subset _) (List.nil_subset _)).trans (withP_computes ?_).keeps
  rwa [memWrite_p]

theorem withModified_writeBack {o : Operand} {s t : State} {ea : Word} (h : resolve o s = .ok (ea, t))
    (core : Byte → Byte → Byte × Byte) (k : Byte → State → Out) :
    withModified o s core k =
      k (core (memRead ea t).1 t.p).1
        (writeBack ea (core (memRead ea t).1 t.p).1 (core (memRead ea t).1 t.p).2 (memRead ea t).2) :=
  withModified_eq h core k

/-- A read-modify-write form that then computes. -/
theorem Form.Runs.modifies {f : Form} {s : State} {core : Byte → Byte → Byte × Byte} {g : Byte → State → State}
    {regs : List Reg} {flags : List Flag} {post : Byte → Byte → State → Prop}
    (runs : f.Runs fun o s => withModified o s core fun r t => .next (advance o (g r t)))
    (others : ∀ m p h, h ∉ flags → getFlag h (core m p).2 = getFlag h p)
    (computes : ∀ r u, Computes regs flags u (g r u))
    (result : ∀ m t, Keeps [] flags s t → t.p = (core m s.p).2 →
      post m (core m s.p).1 (advance f.o (g (core m s.p).1 t))) : f.Listed ∧ f.Modifies s regs flags post := by
  obtain ⟨ea, u, resolved, touched⟩ := resolve_ok f.o s runs.addressable
  rcases read : memRead ea u with ⟨m, v⟩
  have touchedRead : Touched s v := by simpa only [read] using touched.trans (touched_memRead ea u)
  have written : Keeps [] flags s (writeBack ea (core m s.p).1 (core m s.p).2 v) :=
    (touchedRead.keeps [] flags).trans (writeBack_keeps ea _ (by rw [touchedRead.p]; exact others m s.p))
  obtain ⟨keeps, memory, record, pc⟩ := computes (core m s.p).1 (writeBack ea (core m s.p).1 (core m s.p).2 v)
  refine ⟨runs.listed, ea, u, m, v, _, _, resolved, read, ?_, result m _ written rfl, ?_, ?_, ?_⟩
  · rw [runs.meaning, withModified_writeBack resolved, read, touched.p]
  · exact (touchedRead.stored (writeBack_stored ea _ _ v)).same memory record
  · rw [runs.listed.advance_pc, pc, writeBack_pc, touchedRead.pc]
  · exact ((written.mono (List.nil_subset _) (List.Subset.refl _)).trans keeps).trans (advance_keeps ..)

/-- The forms of INC and DEC: the table, the encoder and exec, each at the form's constructor. -/
theorem incDecForms_run (b : Byte) (w : Word) :
    (∀ f ∈ incForms b w, f.Runs increment) ∧ ∀ f ∈ decForms b w, f.Runs decrement := by
  refine ⟨fun f hf => ?_, fun f hf => ?_⟩ <;> fin_cases hf
  all_goals exact ⟨Form.listed_of_row rfl rfl rfl, rfl, fun _ => rfl⟩

theorem Form.Runs.countsMemory {f : Form} {count : Byte → Byte} {n : Byte → Nat}
    (runs : f.Runs (modify fun v p => (count v, setNZ (count v) p))) (s : State) (value : ∀ v, (count v).toNat = n v) :
    f.Listed ∧ f.Modifies s [] [.Z, .N] fun m r t => r.toNat = n m ∧ NZ r t :=
  Form.Runs.modifies runs (fun m p => setNZ_otherFlags (count m) p) (fun _ => Computes.refl [] _)
    fun m _ _ flags => ⟨value m, nz_of_p_eq flags⟩

/-- Settles O23: every form counts the byte read, with SetNZ of the byte written. -/
theorem incDecModifyMemory : Obligations.IncDecModifyMemory := by
  intro s b w
  obtain ⟨inc, dec⟩ := incDecForms_run b w
  exact ⟨fun f hf => Form.Runs.countsMemory (inc f hf) s byte_add_one_toNat,
    fun f hf => Form.Runs.countsMemory (dec f hf) s byte_sub_one_toNat⟩

/-! ### Registers counted (R233 to R236) -/

theorem Form.Listed.countsRegister {f : Form} {s : State} (listed : f.Listed) (r : Reg) {v : Byte} {n : Nat}
    (meaning : exec f.i s = .next (advance f.o (writeReg r v (setNZ v s.p) s))) (value : v.toNat = n) :
    f.Listed ∧ f.Internal s [r] [.Z, .N] fun t => (r.get t).toNat = n ∧ NZ (r.get t) t := by
  refine listed.internal meaning (writeReg_computes r v (setNZ_otherFlags v s.p)) ?_
  obtain ⟨written, nz⟩ := writeReg_setNZ_result r v s.p f.o s
  rw [written]
  exact ⟨value, nz⟩

/-- Settles O24: each instruction counts one register, with SetNZ. -/
theorem incDecRegisters : Obligations.IncDecRegisters := by
  intro s
  refine ⟨List.forall_mem_singleton.2 ?inx, List.forall_mem_singleton.2 ?iny, List.forall_mem_singleton.2 ?dex,
    List.forall_mem_singleton.2 ?dey⟩
  case inx => exact (Form.listed_of_row rfl rfl rfl).countsRegister .x rfl (byte_add_one_toNat s.x)
  case iny => exact (Form.listed_of_row rfl rfl rfl).countsRegister .y rfl (byte_add_one_toNat s.y)
  case dex => exact (Form.listed_of_row rfl rfl rfl).countsRegister .x rfl (byte_sub_one_toNat s.x)
  case dey => exact (Form.listed_of_row rfl rfl rfl).countsRegister .y rfl (byte_sub_one_toNat s.y)

/-! ### The accesses depend on no flag -/

/-- A read does not depend on P, and leaves it. -/
theorem memRead_withP (a : Word) (s : State) (p : Byte) :
    memRead a (s.withP p) = ((memRead a s).1, (memRead a s).2.withP p) := by
  rw [State.withP, memRead_with a s p s.pc s.extra, ← memRead_pc a s, ← memRead_extra a s]
  rfl

theorem memWrite_withP (a : Word) (v : Byte) (s : State) (p : Byte) :
    memWrite a v (s.withP p) = (memWrite a v s).withP p := by
  rw [memWrite_eq, memWrite_eq]
  rfl

theorem indexed_withP (base : Word) (index : Byte) (s : State) (p : Byte) :
    indexed base index (s.withP p) = ((indexed base index s).1, (indexed base index s).2.withP p) := by
  unfold indexed
  dsimp only
  split <;> rfl

theorem zeroPagePointer_withP (b : Byte) (s : State) (p : Byte) :
    zeroPagePointer b (s.withP p) = ((zeroPagePointer b s).1, (zeroPagePointer b s).2.withP p) := by
  simp only [zeroPagePointer, memRead_withP]

theorem pagePointer_withP (w : Word) (s : State) (p : Byte) :
    pagePointer w (s.withP p) = ((pagePointer w s).1, (pagePointer w s).2.withP p) := by
  simp only [pagePointer, memRead_withP]

/-- Nor does the effective address. -/
theorem resolve_withP {o : Operand} {s u : State} {ea : Word} (h : resolve o s = .ok (ea, u)) (p : Byte) :
    resolve o (s.withP p) = .ok (ea, u.withP p) := by
  cases o <;> simp only [resolve, indexed_withP, zeroPagePointer_withP, pagePointer_withP, withP_x, withP_y, withP_pc,
    Except.ok.injEq, reduceCtorEq] at h ⊢
  all_goals
    cases h
    rfl

theorem readOperand_withP {o : Operand} {s u : State} {m : Byte} (addressable : o.addressable = true)
    (h : readOperand o s = .ok (m, u)) (p : Byte) : readOperand o (s.withP p) = .ok (m, u.withP p) := by
  by_cases immediate : o.mode = .immediate
  · cases o <;> cases immediate
    cases h
    rfl
  · obtain ⟨ea, t, resolved, -⟩ := resolve_ok o s addressable
    rw [readOperand_of_resolve immediate resolved, Except.ok.injEq] at h
    rw [readOperand_of_resolve immediate (resolve_withP resolved p), memRead_withP, h]

/-! ### Decimal mode is absent (R238) -/

theorem getFlag_C_setFlag_D (d : Bool) (p : Byte) : getFlag .C (setFlag .D d p) = getFlag .C p := by
  rw [getFlag_setFlag, if_neg nofun]

theorem setFlag_setFlag_D {f : Flag} (h : f ≠ .D) (b d : Bool) (p : Byte) :
    setFlag f b (setFlag .D d p) = setFlag .D d (setFlag f b p) := by
  apply p_ext
  intro g
  by_cases hg : g = f
  · subst hg
    simp [h]
  · simp [hg]

theorem setNZ_setFlag_D (d : Bool) (v p : Byte) : setNZ v (setFlag .D d p) = setFlag .D d (setNZ v p) := by
  simp (disch := decide) only [setNZ, setFlag_setFlag_D]

/-- A computation on P that passes Decimal through and whose result does not depend on it. -/
def PassesDecimal (core : Byte → Byte × Byte) : Prop :=
  ∀ d p, core (setFlag .D d p) = ((core p).1, setFlag .D d (core p).2)

theorem adcCore_passesDecimal (a m : Byte) : PassesDecimal (adcCore a m) := by
  intro d p
  simp (disch := decide) only [adcCore, getFlag_C_setFlag_D, setFlag_setFlag_D, setNZ_setFlag_D]

theorem sbcCore_passesDecimal (a m : Byte) : PassesDecimal (sbcCore a m) := adcCore_passesDecimal a (m ^^^ 0xFF)

theorem incCore_passesDecimal (v : Byte) : PassesDecimal (incCore v) := by
  intro d p
  rw [incCore, setNZ_setFlag_D, incCore]

theorem rorNZ_passesDecimal (v : Byte) : PassesDecimal (withNZ rorCore v) := by
  intro d p
  simp (disch := decide) only [withNZ, rorCore, getFlag_C_setFlag_D, setFlag_setFlag_D, setNZ_setFlag_D]

/-- A form that answers the same, but for Decimal, on the machine with Decimal written. -/
def Form.IgnoresDecimal (f : Form) (s : State) (d : Bool) : Prop :=
  ∃ t, exec f.i s = .next t ∧ exec f.i (s.withP (setFlag .D d s.p)) = .next (t.withP (setFlag .D d t.p))

theorem Form.Runs.accumulate_ignoresDecimal {f : Form} {core : Byte → Byte → Byte → Byte × Byte}
    (runs : f.Runs (accumulate core)) (passes : ∀ a m, PassesDecimal (core a m)) (s : State) (d : Bool) :
    f.IgnoresDecimal s d := by
  obtain ⟨m, u, read, touched⟩ := readOperand_ok f.o s runs.addressable
  have readD := readOperand_withP runs.addressable read (setFlag .D d s.p)
  refine ⟨_, (runs.meaning s).trans (accumulate_eq read core), ?_⟩
  rw [runs.meaning, accumulate_eq readD, ← advance_withP]
  simp only [withP_a, withP_p, touched.p, passes u.a m d s.p, writeReg_withP, withP_writeReg, advance_p, writeReg_p]

/-- A composite, on a form that has an address, where its first core answers r and q. -/
theorem composite_eq {o : Operand} {s t : State} {ea : Word} {r q : Byte} {rmw : Byte → Byte → Byte × Byte}
    (h : resolve o s = .ok (ea, t)) (core : rmw (memRead ea t).1 t.p = (r, q))
    (acc : Byte → Byte → Byte → Byte × Byte) :
    composite rmw acc o s =
      .next (advance o (writeReg .a (acc t.a r q).1 (acc t.a r q).2 (memWrite ea r (memRead ea t).2))) := by
  rw [composite, withModified_writeBack h, core]
  simp only [writeBack, withP_a, withP_p, memWrite_a, memRead_a]
  rfl

theorem Form.Runs.composite_ignoresDecimal {f : Form} {rmw : Byte → Byte → Byte × Byte}
    {acc : Byte → Byte → Byte → Byte × Byte} (runs : f.Runs (composite rmw acc))
    (rmwPasses : ∀ m, PassesDecimal (rmw m)) (accPasses : ∀ a m, PassesDecimal (acc a m)) (s : State)
    (d : Bool) : f.IgnoresDecimal s d := by
  obtain ⟨ea, u, resolved, touched⟩ := resolve_ok f.o s runs.addressable
  have resolvedD := resolve_withP resolved (setFlag .D d s.p)
  rcases core : rmw (memRead ea u).1 u.p with ⟨r, q⟩
  have coreD : rmw (memRead ea (u.withP (setFlag .D d s.p))).1 (u.withP (setFlag .D d s.p)).p = (r, setFlag .D d q) := by
    rw [memRead_withP, withP_p, ← touched.p, rmwPasses, core]
  refine ⟨_, (runs.meaning s).trans (composite_eq resolved core acc), ?_⟩
  rw [runs.meaning, composite_eq resolvedD coreD, ← advance_withP]
  simp only [withP_a, memRead_withP, memWrite_withP, accPasses u.a r d q, writeReg_withP, withP_writeReg, advance_p,
    writeReg_p]

/-- The forms of ISB and RRA: the table, the encoder and exec, each at the form's constructor. -/
theorem addingCompositeForms_run (b : Byte) (w : Word) :
    (∀ f ∈ isbForms b w, f.Runs incrementSubtract) ∧ ∀ f ∈ rraForms b w, f.Runs rotateRightAdd := by
  refine ⟨fun f hf => ?_, fun f hf => ?_⟩ <;> fin_cases hf
  all_goals exact ⟨Form.listed_of_row rfl rfl rfl, rfl, fun _ => rfl⟩

/-- Settles O60: the accesses depend on no flag, and the cores pass Decimal through. -/
theorem decimalFlagIsIgnored : Obligations.DecimalFlagIsIgnored := by
  intro s b w d f hf
  obtain ⟨adc, sbc, sbcEB, -⟩ := accumulateForms_run b w
  obtain ⟨isb, rra⟩ := addingCompositeForms_run b w
  simp only [List.mem_append, or_assoc] at hf
  rcases hf with hf | hf | hf | hf | hf
  · exact Form.Runs.accumulate_ignoresDecimal (adc f hf) adcCore_passesDecimal s d
  · exact Form.Runs.accumulate_ignoresDecimal (sbc f hf) sbcCore_passesDecimal s d
  · exact Form.Runs.accumulate_ignoresDecimal (sbcEB f hf) sbcCore_passesDecimal s d
  · exact Form.Runs.composite_ignoresDecimal (isb f hf) incCore_passesDecimal sbcCore_passesDecimal s d
  · exact Form.Runs.composite_ignoresDecimal (rra f hf) rorNZ_passesDecimal adcCore_passesDecimal s d

end Sys2Proof.Machine

namespace Sys2Proof.Machine

/-! ### Shift cores as arithmetic (43 R241 to R244) -/

/-- The core that shift_op runs for each shift (R240). -/
def Shift.core : Shift → Byte → Byte → Byte × Byte
  | .asl => aslCore
  | .lsr => lsrCore
  | .rol => rolCore
  | .ror => rorCore

theorem bitByte_toNat (b : Bool) : (bitByte b).toNat = b.toNat := by cases b <;> rfl

theorem byte_shiftLeft_one_toNat (v : Byte) : (v <<< 1).toNat = v.toNat * 2 % 256 := by
  rw [BitVec.toNat_shiftLeft, Nat.shiftLeft_eq]

theorem byte_shiftRight_one_toNat (v : Byte) : (v >>> 1).toNat = v.toNat / 2 :=
  Nat.shiftRight_eq_div_pow v.toNat 1

/-- The carry enters ROL's result at the bit the shift left empty, so the disjunction is a sum. -/
theorem byte_rotateLeft_toNat (v : Byte) (c : Bool) : ((v <<< 1) ||| bitByte c).toNat = v.toNat * 2 % 256 + c.toNat := by
  have even : v.toNat * 2 % 256 = 2 ^ 1 * (v.toNat % 128) := by omega
  rw [BitVec.toNat_or, byte_shiftLeft_one_toNat, bitByte_toNat, even, Nat.two_pow_add_eq_or_of_lt c.toNat_lt]

/-- The carry enters ROR's result at the bit the shift left empty, so the disjunction is a sum. -/
theorem byte_rotateRight_toNat (v : Byte) (c : Bool) :
    ((v >>> 1) ||| (bitByte c <<< 7)).toNat = v.toNat / 2 + 128 * c.toNat := by
  have carry : (bitByte c <<< 7).toNat = 2 ^ 7 * c.toNat := by cases c <;> rfl
  have low : v.toNat / 2 < 2 ^ 7 := by omega
  rw [BitVec.toNat_or, byte_shiftRight_one_toNat, carry, Nat.or_comm, ← Nat.two_pow_add_eq_or_of_lt low, Nat.add_comm]

theorem Shift.core_toNat (q : Shift) (v p : Byte) : (q.core v p).1.toNat = q.result v.toNat (getFlag .C p) := by
  cases q with
  | asl => exact byte_shiftLeft_one_toNat v
  | lsr => exact byte_shiftRight_one_toNat v
  | rol => exact byte_rotateLeft_toNat v (getFlag .C p)
  | ror => exact byte_rotateRight_toNat v (getFlag .C p)

theorem byte_bit0 (v : Byte) : v.getLsbD 0 = decide (v.toNat % 2 = 1) := Nat.testBit_zero v.toNat

/-- Each core writes the bit shifted off to Carry, and no other flag. -/
theorem Shift.core_flags (q : Shift) (v p : Byte) : (q.core v p).2 = setFlag .C (q.out v.toNat) p := by
  cases q with
  | asl | rol => exact congrArg (setFlag .C · p) (byte_bit7 v)
  | lsr | ror => exact congrArg (setFlag .C · p) (byte_bit0 v)

theorem Shift.coreNZ_otherFlags (q : Shift) (v p : Byte) (f : Flag) (h : f ∉ [Flag.C, .Z, .N]) :
    getFlag f (withNZ q.core v p).2 = getFlag f p := by
  simp only [List.mem_cons, List.not_mem_nil, or_false, not_or] at h
  obtain ⟨c, z, n⟩ := h
  simp [withNZ, Shift.core_flags, c, z, n]

/-- The result and the flags of a shift, where P is the one its core and SetNZ give (R240). -/
theorem Shift.coreNZ_result (q : Shift) {v p : Byte} {t : State} (flags : t.p = (withNZ q.core v p).2) :
    (withNZ q.core v p).1.toNat = q.result v.toNat (getFlag .C p) ∧ getFlag .C t.p = q.out v.toNat ∧
      NZ (withNZ q.core v p).1 t := by
  refine ⟨q.core_toNat v p, ?carry, nz_of_p_eq flags⟩
  rw [flags, withNZ, setNZ_otherFlags _ _ _ (by decide), q.core_flags, getFlag_setFlag, if_pos rfl]

/-! ### Shifts in every mode (R240) -/

/-- The accumulator forms of the shifts: the table, the encoder and exec, each at the form's constructor. -/
theorem shiftAForms_run (s : State) :
    ∀ q ∈ [(Shift.asl, aslAForms), (.lsr, lsrAForms), (.rol, rolAForms), (.ror, rorAForms)], ∀ f ∈ q.2,
      f.Listed ∧ exec f.i s =
        .next (advance f.o (writeReg .a (withNZ q.1.core s.a s.p).1 (withNZ q.1.core s.a s.p).2 s)) := by
  intro q hq f hf
  fin_cases hq <;> fin_cases hf
  all_goals exact ⟨Form.listed_of_row rfl rfl rfl, rfl⟩

/-- The memory forms of the shifts: the table, the encoder and exec, each at the form's constructor. -/
theorem shiftForms_run (b : Byte) (w : Word) :
    ∀ q ∈ [(Shift.asl, aslForms b w), (.lsr, lsrForms b w), (.rol, rolForms b w), (.ror, rorForms b w)], ∀ f ∈ q.2,
      f.Runs (modify (withNZ q.1.core)) := by
  intro q hq f hf
  fin_cases hq <;> fin_cases hf
  all_goals exact ⟨Form.listed_of_row rfl rfl rfl, rfl, fun _ => rfl⟩

/-- Settles O25: every form runs the core of its shift and SetNZ, on A or on the byte read, and the cores are the
arithmetic of the rules. -/
theorem shiftsMoveBitsThroughCarry : Obligations.ShiftsMoveBitsThroughCarry := by
  refine ⟨fun s q hq f hf => ?accumulator, fun s b w q hq f hf => ?memory⟩
  case accumulator =>
    obtain ⟨listed, meaning⟩ := shiftAForms_run s q hq f hf
    exact listed.internal meaning (writeReg_computes .a _ (q.1.coreNZ_otherFlags s.a s.p)) (q.1.coreNZ_result rfl)
  case memory =>
    exact Form.Runs.modifies (shiftForms_run b w q hq f hf) q.1.coreNZ_otherFlags (fun _ => Computes.refl [] _)
      fun _ _ _ flags => q.1.coreNZ_result flags

end Sys2Proof.Machine

namespace Sys2Proof.Machine

/-! ### Transfers of control (44 R250 to R261) -/

/-- The machine sent to an address, with extra cycles charged. -/
def goTo (pc : Word) (charge : Nat) (s : State) : State := { s with pc := pc, extra := s.extra + charge }

theorem Keeps.goTo {regs : List Reg} {flags : List Flag} {s t : State} (h : Keeps regs flags s t) (pc : Word)
    (charge : Nat) : Keeps regs flags s (goTo pc charge t) :=
  h.trans ⟨fun r _ => by cases r <;> rfl, fun _ _ => rfl, rfl, rfl, rfl, rfl, rfl, rfl⟩

theorem SameMemory.goTo {s t : State} (h : SameMemory s t) (pc : Word) (charge : Nat) :
    SameMemory s (goTo pc charge t) := h

/-- A transfer of control with no charge records nothing. -/
theorem SameRecord.goTo {s t : State} (h : SameRecord s t) (pc : Word) : SameRecord s (goTo pc 0 t) := h

/-! ### Branches (R250 to R258) -/

/-- Addresses have one high byte exactly when they lie on one page: what a branch compares for its charge (R250). -/
theorem hi_eq_hi_iff (v w : Word) : hi v = hi w ↔ v.toNat / 256 = w.toNat / 256 := by
  rw [← BitVec.toNat_inj, hi_toNat, hi_toNat]

/-- A branch taken goes to the displaced address, one past pc being pc_next (R250). -/
theorem branch_taken {cond : State → Bool} {s : State} (taken : cond s = true) (d : Byte) :
    branch cond (.relative d) s =
      .next (goTo (s.pc + 1 + sext16 d)
        (1 + if (s.pc + 1 + sext16 d).toNat / 256 ≠ (s.pc + 1).toNat / 256 then 1 else 0) s) := by
  rw [branch, withAddress_eq rfl, if_pos taken]
  simp only [goTo, ne_eq, hi_eq_hi_iff, Nat.add_assoc]
  rfl

/-- A branch not taken falls through to pc_next. -/
theorem branch_not_taken {cond : State → Bool} {s : State} (fails : cond s = false) (d : Byte) :
    branch cond (.relative d) s = .next (goTo (s.pc + 1) 0 s) :=
  if_neg (ne_true_of_eq_false fails)

/-- A branch completes at its target or at pc_next, as its condition says, and changes pc and extra only. -/
theorem branch_goes (cond : State → Bool) (d : Byte) (s : State) :
    ∃ pc charge, branch cond (.relative d) s = .next (goTo pc charge s) ∧
      Branched d (cond s) s (goTo pc charge s) := by
  have fall : (s.pc + 1).toNat = (s.pc.toNat + 1) % 65536 := BitVec.toNat_add s.pc 1
  have target : (s.pc + 1 + sext16 d).toNat = (((s.pc.toNat : Int) + 1 + d.toInt) % 65536).toNat := by
    rw [← add_sext16_toNat, Int.toNat_natCast]
  cases h : cond s with
  | true =>
    refine ⟨_, _, branch_taken h d, target, ?_⟩
    rw [← fall, ← target]
    rfl
  | false => exact ⟨_, _, branch_not_taken h d, fall, rfl⟩

/-- The forms of the branches: each branches on its flag having the value it tests. -/
theorem branchForms_run (b : Byte) :
    ∀ q ∈ [(bccForms b, Flag.C, false), (bcsForms b, .C, true), (beqForms b, .Z, true),
           (bneForms b, .Z, false), (bmiForms b, .N, true), (bplForms b, .N, false),
           (bvcForms b, .V, false), (bvsForms b, .V, true)], ∀ f ∈ q.1,
      f.Listed ∧ ∀ s, exec f.i s = branch (fun t => decide (getFlag q.2.1 t.p = q.2.2)) (.relative b) s := by
  intro q hq f hf
  fin_cases hq <;> fin_cases hf
  all_goals
    refine ⟨Form.listed_of_row rfl rfl rfl, fun s => ?_⟩
    simp only [Bool.decide_eq_true, Bool.decide_eq_false]
    rfl

/-- Settles O26: each form is a branch on its flag's value, which goes to one of two addresses and does nothing else. -/
theorem branchesTakeOrFallThrough : Obligations.BranchesTakeOrFallThrough := by
  intro s b q hq f hf
  have same := Computes.refl [] [] s
  obtain ⟨listed, meaning⟩ := branchForms_run b q hq f hf
  obtain ⟨pc, charge, goes, branched⟩ := branch_goes (fun t => decide (getFlag q.2.1 t.p = q.2.2)) b s
  exact ⟨listed, goTo pc charge s, (meaning s).trans goes, branched, same.keeps.goTo .., same.memory.goTo ..,
    rfl, rfl, rfl⟩

/-! ### Jumps (R259, 40 R168) -/

/-- The address after a pointer within the pointer's page: its high byte with the low byte of the next (R168). -/
theorem page_or_low_next_eq (ptr : Word) :
    page ptr ||| ((ptr + 1) &&& 0x00FF) = BitVec.ofNat 16 (ptr.toNat / 256 * 256 + (ptr.toNat + 1) % 256) := by
  have low : ((ptr + 1) &&& 0x00FF).toNat = (ptr.toNat + 1) % 256 := by
    rw [BitVec.toNat_and, add_one_eq_ofNat]
    refine (Nat.and_two_pow_sub_one_eq_mod _ 8).trans ?_
    rw [BitVec.toNat_ofNat]
    omega
  apply BitVec.eq_of_toNat_eq
  rw [BitVec.toNat_or, page_toNat, low, Nat.mul_comm,
    ← Nat.two_pow_add_eq_or_of_lt (i := 8) (Nat.mod_lt _ (by decide)), BitVec.toNat_ofNat]
  omega

/-- JMP's pointer is two reads, low byte first, the second within the page of the first (R168). -/
theorem pagePointer_reads (ptr : Word) (s : State) :
    ∃ l u h v, memRead ptr s = (l, u) ∧
      memRead (BitVec.ofNat 16 (ptr.toNat / 256 * 256 + (ptr.toNat + 1) % 256)) u = (h, v) ∧
      pagePointer ptr s = (wordOf h l, v) := by
  rw [← page_or_low_next_eq]
  exact ⟨_, _, _, _, Prod.mk.eta.symm, Prod.mk.eta.symm, rfl⟩

/-- A jump goes to the address the resolver answers, on the machine the resolver leaves (R259). -/
theorem jump_eq {o : Operand} {s t : State} {ea : Word} (h : resolve o s = .ok (ea, t)) :
    jump o s = .next (goTo ea 0 t) :=
  withAddress_eq h _

/-- Settles O27: both forms go to the address the resolver answers, which touches the record of the environment only. -/
theorem jumpsSetPc : Obligations.JumpsSetPc := by
  intro s w
  have same := Computes.refl [] [] s
  refine ⟨fun f hf => ?listed,
    ⟨goTo w 0 s, rfl, rfl, same.keeps.goTo .., same.memory.goTo .., same.record.goTo w⟩, ?indirect⟩
  case listed =>
    fin_cases hf
    all_goals exact Form.listed_of_row rfl rfl rfl
  case indirect =>
    obtain ⟨l, u, h, v, low, high, pointer⟩ := pagePointer_reads w s
    have resolved : resolve (.indirect w) s = .ok (wordOf h l, v) := congrArg Except.ok pointer
    have touched : Touched s v := by simpa only [pointer] using touched_pagePointer w s
    refine ⟨l, u, h, v, goTo (wordOf h l) 0 v, low, high, resolved, jump_eq resolved, ?_,
      (touched.keeps [] []).goTo .., touched.sameMemory.goTo .., (Computes.refl [] [] v).record.goTo _⟩
    rw [Nat.mul_comm]
    exact wordOf_toNat h l

/-! ### Words on the stack (40 R175, R176) -/

/-- Push(v) changes the stack and SP only. -/
theorem push_keeps (v : Byte) (s : State) : Keeps [.sp] [] s (push v s) :=
  ((memWrite_keeps _ v s).mono (List.nil_subset _) (List.nil_subset _)).trans
    (writeReg_computes .sp _ fun _ _ => rfl).keeps

theorem push16_keeps (w : Word) (s : State) : Keeps [.sp] [] s (push16 w s) :=
  (push_keeps _ s).trans (push_keeps _ _)

theorem push16_mapper (w : Word) (s : State) : (push16 w s).mapper = s.mapper := by
  rw [push16_eq]

theorem push16_sameRecord (w : Word) (s : State) : SameRecord s (push16 w s) := by
  rw [push16_eq]
  exact ⟨rfl, rfl, rfl, rfl⟩

theorem push16_sp_toNat (w : Word) (s : State) : (push16 w s).sp.toNat = (s.sp.toNat + 254) % 256 := by
  rw [push16_eq, byte_sub_one_toNat, byte_sub_one_toNat]
  omega

/-- The high byte lies where SP points, the low byte one slot below. -/
theorem push16_ram_read (w : Word) (s : State) (k : Nat) :
    (push16 w s).ram.read k =
      if k = 256 + (s.sp.toNat + 255) % 256 then lo w
      else if k = 256 + s.sp.toNat then hi w else s.ram.read k := by
  rw [push16_eq, Memory.read_write, Memory.read_write, byte_sub_one_toNat]

/-- Pop16() changes SP only, the stack lying in RAM. -/
theorem pop16_computes (s : State) : Computes [.sp] [] s (pop16 s).2 := by
  rw [pop16_eq]
  exact writeReg_computes .sp _ fun _ _ => rfl

theorem pop16_sp_toNat (s : State) : (pop16 s).2.sp.toNat = (s.sp.toNat + 2) % 256 := by
  rw [pop16_eq, byte_add_one_toNat, byte_add_one_toNat]
  omega

/-- The low byte lies one slot above SP, the high byte two. -/
theorem pop16_toNat (s : State) :
    (pop16 s).1.toNat =
      (s.ram.read (256 + (s.sp.toNat + 2) % 256)).toNat * 256 + (s.ram.read (256 + (s.sp.toNat + 1) % 256)).toNat := by
  rw [pop16_eq, wordOf_toNat, byte_add_one_toNat, byte_add_one_toNat, Nat.mod_add_mod, Nat.mul_comm]

/-! ### Subroutines (R260, R261) -/

/-- Settles O28: by what Push16 stores and keeps, the jump after it writing pc alone. -/
theorem jsrPushesItsLastByteAddress : Obligations.JsrPushesItsLastByteAddress := by
  intro s w
  refine ⟨List.forall_mem_singleton.2 (Form.listed_of_row rfl rfl rfl), goTo w 0 (push16 (s.pc + 1) s), rfl, rfl,
    push16_sp_toNat _ s, push16_ram_read _ s, push16_mapper _ s, (push16_keeps _ s).goTo ..,
    (push16_sameRecord _ s).goTo w⟩

/-- Settles O29: by what Pop16 answers and keeps, the jump after it writing pc alone. -/
theorem rtsReturnsPastThePulledAddress : Obligations.RtsReturnsPastThePulledAddress := by
  intro s
  obtain ⟨keeps, memory, record, -⟩ := pop16_computes s
  refine ⟨List.forall_mem_singleton.2 (Form.listed_of_row rfl rfl rfl), goTo ((pop16 s).1 + 1) 0 (pop16 s).2, rfl, ?_,
    pop16_sp_toNat s, keeps.goTo .., memory.goTo .., record.goTo _⟩
  rw [← pop16_toNat]
  exact BitVec.toNat_add (pop16 s).1 1

end Sys2Proof.Machine

namespace Sys2Proof.Machine

/-! ### Effects that compose -/

theorem SameMemory.trans {s t u : State} (h : SameMemory s t) (k : SameMemory t u) : SameMemory s u :=
  ⟨fun a => (k.1 a).trans (h.1 a), k.2.trans h.2⟩

theorem SameRecord.trans {s t u : State} (h : SameRecord s t) (k : SameRecord t u) : SameRecord s u := by
  obtain ⟨extra, answers, draws, events⟩ := h
  obtain ⟨extra', answers', draws', events'⟩ := k
  exact ⟨extra'.trans extra, answers'.trans answers, draws'.trans draws, events'.trans events⟩

theorem Computes.trans {regs : List Reg} {flags : List Flag} {s t u : State} (h : Computes regs flags s t)
    (k : Computes regs flags t u) : Computes regs flags s u :=
  ⟨h.keeps.trans k.keeps, h.memory.trans k.memory, h.record.trans k.record, k.pc.trans h.pc⟩

theorem Computes.mono {regs regs' : List Reg} {flags flags' : List Flag} {s t : State} (h : Computes regs flags s t)
    (regsSub : regs ⊆ regs') (flagsSub : flags ⊆ flags') : Computes regs' flags' s t :=
  { h with keeps := h.keeps.mono regsSub flagsSub }

/-- The fall-through of a one-byte instruction leaves the machine: pc is pc_next once the opcode is fetched (40 R180). -/
theorem advance_implied (s : State) : advance .implied s = s :=
  congrArg (goTo · 0 s) (BitVec.add_zero s.pc)

theorem implied_eq (s : State) : implied s = .next s := congrArg _ (advance_implied s)

/-! ### Bytes on the stack (40 R173, R174) -/

theorem push_sp_toNat (v : Byte) (s : State) : (push v s).sp.toNat = (s.sp.toNat + 255) % 256 := by
  rw [push_eq, byte_sub_one_toNat]

/-- The byte lies where SP pointed. -/
theorem push_ram_read (v : Byte) (s : State) (k : Nat) :
    (push v s).ram.read k = if k = 256 + s.sp.toNat then v else s.ram.read k := by
  rw [push_eq, Memory.read_write]

theorem push_pc (v : Byte) (s : State) : (push v s).pc = s.pc := by
  rw [push_eq]

theorem push_p (v : Byte) (s : State) : (push v s).p = s.p := by
  rw [push_eq]

theorem push_mapper (v : Byte) (s : State) : (push v s).mapper = s.mapper := by
  rw [push_eq]

theorem push_sameRecord (v : Byte) (s : State) : SameRecord s (push v s) := by
  rw [push_eq]
  exact ⟨rfl, rfl, rfl, rfl⟩

/-- Pop() changes SP only, the stack lying in RAM. -/
theorem pop_computes (s : State) : Computes [.sp] [] s (pop s).2 := by
  rw [pop_eq]
  exact writeReg_computes .sp _ fun _ _ => rfl

theorem pop_sp_toNat (s : State) : (pop s).2.sp.toNat = (s.sp.toNat + 1) % 256 := by
  rw [pop_eq, byte_add_one_toNat]

/-- The byte lies one slot above SP. -/
theorem pop_byte (s : State) : (pop s).1 = s.ram.read (256 + (s.sp.toNat + 1) % 256) := by
  rw [pop_eq, byte_add_one_toNat]

/-! ### Pushes and pulls of A and P (45 R270 to R273) -/

/-- Settles O30: by what Push stores and keeps, with the flags of PHP's copy of P. -/
theorem pushesOfAAndP : Obligations.PushesOfAAndP := by
  intro s
  refine ⟨List.forall_mem_singleton.2 (Form.listed_of_row rfl rfl rfl),
    List.forall_mem_singleton.2 (Form.listed_of_row rfl rfl rfl),
    ⟨push s.a s, implied_eq _, push_ram_read s.a s, push_sp_toNat s.a s, push_pc s.a s, push_mapper s.a s,
      push_keeps s.a s, push_sameRecord s.a s⟩,
    ⟨push (phpByte s.p) s, phpByte s.p, implied_eq _, push_ram_read _ s, fun f => ?copy, push_sp_toNat _ s,
      push_pc _ s, push_p _ s, push_mapper _ s, push_keeps _ s, push_sameRecord _ s⟩⟩
  case copy => rw [getFlag_phpByte, ite_or]

theorem mem_allFlags (f : Flag) : f ∈ [Flag.C, .Z, .I, .D, .B, .U, .V, .N] := by
  cases f <;> decide

/-- The machine after a status byte is popped into P, as PLP and RTI do (R273, R283). -/
def pullStatus (s : State) : State := (pop s).2.withP (pulledP (pop s).1)

theorem pullStatus_computes (s : State) :
    Computes [.sp] [.C, .Z, .I, .D, .B, .U, .V, .N] s (pullStatus s) :=
  ((pop_computes s).mono (List.Subset.refl _) (List.nil_subset _)).trans
    ((withP_computes fun f other => absurd (mem_allFlags f) other).mono (List.nil_subset _) (List.Subset.refl _))

/-- Break is cleared and bit 5 set in the byte pulled. -/
theorem getFlag_pullStatus (f : Flag) (s : State) :
    getFlag f (pullStatus s).p =
      if f = .B then false else if f = .U then true
      else getFlag f (s.ram.read (256 + (s.sp.toNat + 1) % 256)) := by
  rw [pullStatus, withP_p, getFlag_pulledP, pop_byte]

theorem pullStatus_sp_toNat (s : State) : (pullStatus s).sp.toNat = (s.sp.toNat + 1) % 256 := pop_sp_toNat s

/-- The machine after A is popped with SetNZ, as PLA does (R271). -/
def pullA (s : State) : State := writeReg .a (pop s).1 (setNZ (pop s).1 (pop s).2.p) (pop s).2

theorem pullA_computes (s : State) : Computes [.a, .sp] [.Z, .N] s (pullA s) :=
  ((pop_computes s).mono (by decide) (List.nil_subset _)).trans
    ((writeReg_computes .a _ (setNZ_otherFlags _ _)).mono (by decide) (List.Subset.refl _))

/-- Settles O31: by what Pop answers and keeps, A or P written with the byte. -/
theorem pullsOfAAndP : Obligations.PullsOfAAndP := by
  intro s
  obtain ⟨keepsA, memoryA, recordA, pcA⟩ := pullA_computes s
  obtain ⟨keepsP, memoryP, recordP, pcP⟩ := pullStatus_computes s
  exact ⟨List.forall_mem_singleton.2 (Form.listed_of_row rfl rfl rfl),
    List.forall_mem_singleton.2 (Form.listed_of_row rfl rfl rfl),
    ⟨pullA s, implied_eq _, pop_byte s, nz_of_p_eq rfl, pop_sp_toNat s, pcA, keepsA, memoryA, recordA⟩,
    ⟨pullStatus s, implied_eq _, fun f => getFlag_pullStatus f s, pullStatus_sp_toNat s, pcP, keepsP, memoryP, recordP⟩⟩

/-! ### Flag instructions (R274 to R280) -/

/-- A form that writes one flag of P. -/
theorem Form.Listed.writesFlag {f : Form} {s : State} {g : Flag} {b : Bool} (listed : f.Listed)
    (meaning : exec f.i s = .next (advance f.o (s.withP (setFlag g b s.p)))) :
    f.Listed ∧ f.Internal s [] [g] fun t => getFlag g t.p = b := by
  refine listed.internal meaning (withP_computes fun h other => ?_) ?_
  · rw [getFlag_setFlag, if_neg (List.mem_singleton.not.1 other)]
  · rw [advance_p, withP_p, getFlag_setFlag, if_pos rfl]

/-- With no NMI pending, a poll enters a pending IRQ where I is clear (40 R152). -/
theorem pollInterrupts_of_irq {s : State} (nmi : s.nmiPending = false) (irq : s.irqPending = true)
    (clear : getFlag .I s.p = false) : pollInterrupts s = irqEntry s := by
  simp [pollInterrupts, nmi, irq, clear]

/-- With no NMI pending, a poll does nothing where I is set. -/
theorem pollInterrupts_of_masked {s : State} (nmi : s.nmiPending = false) (masked : getFlag .I s.p = true) :
    pollInterrupts s = s := by
  simp [pollInterrupts, nmi, masked]

/-- Settles O32: each form writes its flag; the poll after CLI or SEI sees the I that it wrote. -/
theorem flagInstructionsWriteOneFlag : Obligations.FlagInstructionsWriteOneFlag := by
  intro s
  refine ⟨fun q hq f hf => ?forms,
    ⟨s.withP (setFlag .I false s.p), implied_eq _, fun u p nmi irq => pollInterrupts_of_irq nmi irq ?cleared⟩,
    ⟨s.withP (setFlag .I true s.p), implied_eq _, fun u p nmi => pollInterrupts_of_masked nmi ?masked⟩⟩
  case forms =>
    fin_cases hq <;> fin_cases hf
    all_goals exact (Form.listed_of_row rfl rfl rfl).writesFlag rfl
  all_goals rw [p, withP_p, getFlag_setFlag, if_pos rfl]

/-! ### NOPs (R281, 46 R299) -/

/-- The forms of NOP with an operand: the table, the encoder and exec, each at the form's constructor. -/
theorem nopReadForms_run (b : Byte) (w : Word) : ∀ f ∈ nopReadForms b w, f.Runs nopRead := by
  intro f hf
  fin_cases hf
  all_goals exact ⟨Form.listed_of_row rfl rfl rfl, rfl, fun _ => rfl⟩

/-- Settles O33: a form with an operand reads it and computes nothing, the others fall through at once. -/
theorem nopsChangeNothing : Obligations.NopsChangeNothing := by
  intro s b w
  refine ⟨List.forall_mem_singleton.2 ?official, fun f hf => ?implied, fun f hf => ?read⟩
  case official => exact (Form.listed_of_row rfl rfl rfl).internal rfl (Computes.refl [] [] s) rfl
  case implied =>
    fin_cases hf
    all_goals exact (Form.listed_of_row rfl rfl rfl).internal rfl (Computes.refl [] [] s) ⟨rfl, rfl⟩
  case read =>
    exact Form.Runs.reads (nopReadForms_run b w f hf) (fun _ => Computes.refl [] []) fun _ _ touched => touched.p

/-! ### BRK and RTI (R282, R283) -/

/-- The return address, high byte first, and the status byte lie in three slots from where SP pointed downwards. -/
theorem pushFrame_framePushed (ret : Word) (status : Byte) (s : State) :
    FramePushed ret status s (pushFrame ret status s) := by
  have two : s.sp - 1 - 1 = s.sp - 2 := sub_sub ..
  have three : s.sp - 2 - 1 = s.sp - 3 := sub_sub ..
  rw [pushFrame_eq, two, three]
  refine ⟨rfl, fun k => ?_⟩
  simp only [Memory.read_write]

theorem pushFrame_keeps (ret : Word) (status : Byte) (s : State) : Keeps [.sp] [] s (pushFrame ret status s) :=
  (push16_keeps ret s).trans (push_keeps status _)

theorem pushFrame_mapper (ret : Word) (status : Byte) (s : State) : (pushFrame ret status s).mapper = s.mapper :=
  (push_mapper status _).trans (push16_mapper ret s)

theorem pushFrame_sameRecord (ret : Word) (status : Byte) (s : State) : SameRecord s (pushFrame ret status s) :=
  (push16_sameRecord ret s).trans (push_sameRecord status _)

theorem pushFrame_p (ret : Word) (status : Byte) (s : State) : (pushFrame ret status s).p = s.p := by
  rw [pushFrame_eq]

/-- P after BRK's entry: Break and I set (R282). -/
def brkP (p : Byte) : Byte := setFlag .I true (setFlag .B true p)

theorem getFlag_brkP (f : Flag) (p : Byte) :
    getFlag f (brkP p) = if f = .I then true else if f = .B then true else getFlag f p := by
  simp only [brkP, getFlag_setFlag]

theorem brkP_otherFlags (p : Byte) (f : Flag) (h : f ∉ [Flag.B, .I]) : getFlag f (brkP p) = getFlag f p := by
  simp only [List.mem_cons, List.not_mem_nil, or_false, not_or] at h
  rw [getFlag_brkP, if_neg h.2, if_neg h.1]

/-- BRK pushes its frame, then goes to the vector's address with Break and I set. -/
theorem brkEntry_eq_goTo (s : State) :
    brkEntry s = goTo (vectorTarget s 0xFFFE) 0 ((pushFrame (s.pc + 1) s.p s).withP (brkP s.p)) := by
  rw [brkEntry_eq, pushFrame_eq]
  rfl

/-- Settles O34: by what the three pushes store and keep, the entry writing P and pc after them. -/
theorem brkEntersThroughTheIrqVector : Obligations.BrkEntersThroughTheIrqVector := by
  intro s
  refine ⟨List.forall_mem_singleton.2 (Form.listed_of_row rfl rfl rfl), brkEntry s, rfl, ?_⟩
  have frame := pushFrame_framePushed (s.pc + 1) s.p s
  have mapper := pushFrame_mapper (s.pc + 1) s.p s
  have record := pushFrame_sameRecord (s.pc + 1) s.p s
  have pushed := pushFrame_keeps (s.pc + 1) s.p s
  have p := pushFrame_p (s.pc + 1) s.p s
  rw [brkEntry_eq_goTo]
  -- Only these facts of the pushed machine matter from here on.
  generalize pushFrame (s.pc + 1) s.p s = t at frame mapper record pushed p ⊢
  have flags : Computes [] [.B, .I] t (t.withP (brkP s.p)) := withP_computes (p ▸ brkP_otherFlags t.p)
  exact ⟨frame, rfl, getFlag_brkP .B s.p, getFlag_brkP .I s.p, mapper,
    ((pushed.mono (List.Subset.refl _) (List.nil_subset _)).trans
      (flags.keeps.mono (List.nil_subset _) (List.Subset.refl _))).goTo .., record⟩

/-- RTI pops P as PLP does, then pc, with nothing added. -/
theorem returnFromException_eq (s : State) :
    returnFromException s = goTo (pop16 (pullStatus s)).1 0 (pop16 (pullStatus s)).2 := by
  rw [returnFromException, pullStatus, pop16_eq, pop16_eq]
  rfl

theorem pop16_p (s : State) : (pop16 s).2.p = s.p := by
  rw [pop16_eq]

/-- Settles O35: by what the pop of P and Pop16 answer and keep, pc written with the word popped. -/
theorem rtiRestoresStatusAndPc : Obligations.RtiRestoresStatusAndPc := by
  intro s
  refine ⟨List.forall_mem_singleton.2 (Form.listed_of_row rfl rfl rfl), returnFromException s, rfl, ?_⟩
  have computes := (pullStatus_computes s).trans
    ((pop16_computes (pullStatus s)).mono (List.Subset.refl _) (List.nil_subset _))
  have p := pop16_p (pullStatus s)
  have pc := pop16_toNat (pullStatus s)
  have sp := pop16_sp_toNat (pullStatus s)
  rw [pullStatus_sp_toNat, Nat.mod_add_mod, Nat.mod_add_mod] at pc
  rw [pullStatus_sp_toNat, Nat.mod_add_mod] at sp
  rw [returnFromException_eq]
  generalize pop16 (pullStatus s) = r at computes p pc sp ⊢
  obtain ⟨keeps, memory, record, -⟩ := computes
  refine ⟨fun f => ?flags, ?pc, sp, keeps.goTo .., memory.goTo .., record.goTo _⟩
  case flags => exact (congrArg (getFlag f) p).trans (getFlag_pullStatus f s)
  case pc =>
    rw [(pullStatus_computes s).memory.1, (pullStatus_computes s).memory.1] at pc
    exact pc

end Sys2Proof.Machine

namespace Sys2Proof.Machine

/-! ### LAX and SAX (46 R291, R292) -/

/-- The machine with a byte in A and X, Z and N following it. -/
def writeAX (m : Byte) (s : State) : State := { s with a := m, x := m, p := setNZ m s.p }

/-- A and X are written one after the other, as by LDA then TAX. -/
theorem writeAX_eq (m : Byte) (s : State) :
    writeAX m s = writeReg .x m (setNZ m s.p) (writeReg .a m (setNZ m s.p) s) := rfl

theorem writeAX_computes (m : Byte) (s : State) : Computes [.a, .x] [.Z, .N] s (writeAX m s) := by
  rw [writeAX_eq]
  have a : Computes [.a] [.Z, .N] s (writeReg .a m (setNZ m s.p) s) := writeReg_computes .a m (setNZ_otherFlags m s.p)
  exact (a.mono (by decide) (List.Subset.refl _)).trans
    ((writeReg_computes .x m fun _ _ => rfl).mono (by decide) (List.Subset.refl _))

theorem Form.Runs.loadsAX {f : Form} (runs : f.Runs loadAX) (s : State) :
    f.Listed ∧ f.Reads s [.a, .x] [.Z, .N] fun m t => t.a = m ∧ t.x = m ∧ NZ m t :=
  Form.Runs.reads (g := writeAX) runs writeAX_computes fun _ _ _ => ⟨rfl, rfl, nz_of_p_eq rfl⟩

/-- The forms of LAX and SAX: the table, the encoder and exec, each at the form's constructor. -/
theorem laxSaxForms_run (b : Byte) (w : Word) :
    (∀ f ∈ laxForms b w, f.Runs loadAX) ∧ ∀ f ∈ saxForms b w, f.Runs storeAX := by
  refine ⟨fun f hf => ?_, fun f hf => ?_⟩ <;> fin_cases hf
  all_goals exact ⟨Form.listed_of_row rfl rfl rfl, rfl, fun _ => rfl⟩

/-- Settles O36: every form of LAX writes A and X with the byte of one read; every form of SAX is the store of A and X. -/
theorem laxLoadsBothSaxStoresAnd : Obligations.LaxLoadsBothSaxStoresAnd := by
  intro s b w
  obtain ⟨lax, sax⟩ := laxSaxForms_run b w
  exact ⟨fun f hf => (lax f hf).loadsAX s, fun f hf => (sax f hf).stores rfl⟩

/-! ### Composites (46 R290) -/

theorem otherFlags_mono {p q : Byte} {flags flags' : List Flag} (others : ∀ g, g ∉ flags → getFlag g q = getFlag g p)
    (sub : flags ⊆ flags') (g : Flag) (h : g ∉ flags') : getFlag g q = getFlag g p :=
  others g fun mem => h (sub mem)

/-- A form of a composite: the byte written is the first core's, and A and P are the results of the second core on it
and on the flags that the first leaves. -/
theorem Form.Runs.composes {f : Form} {rmw : Byte → Byte → Byte × Byte} {acc : Byte → Byte → Byte → Byte × Byte}
    {s : State} {flags : List Flag} {post : Byte → Byte → State → Prop} (runs : f.Runs (composite rmw acc))
    (rmwOthers : ∀ m p g, g ∉ flags → getFlag g (rmw m p).2 = getFlag g p)
    (accOthers : ∀ a r p g, g ∉ flags → getFlag g (acc a r p).2 = getFlag g p)
    (result : ∀ m t, t.a = (acc s.a (rmw m s.p).1 (rmw m s.p).2).1 → t.p = (acc s.a (rmw m s.p).1 (rmw m s.p).2).2 →
      post m (rmw m s.p).1 t) : f.Listed ∧ f.Modifies s [.a] flags post := by
  refine Form.Runs.modifies runs rmwOthers (fun r u => writeReg_computes .a _ (accOthers u.a r u.p))
    fun m t keeps flagsWritten => ?_
  have a : t.a = s.a := keeps.otherRegs .a List.not_mem_nil
  rw [a, flagsWritten]
  exact result m _ rfl rfl

/-! ### DCP and ISB (46 R293, R294) -/

/-- The forms of DCP: the table, the encoder and exec, each at the form's constructor. -/
theorem dcpForms_run (b : Byte) (w : Word) : ∀ f ∈ dcpForms b w, f.Runs decrementCompare := by
  intro f hf
  fin_cases hf
  all_goals exact ⟨Form.listed_of_row rfl rfl rfl, rfl, fun _ => rfl⟩

/-- The comparison's flags cover those of the decrement, and its A is the one from before. -/
theorem Form.Runs.decrementsAndCompares {f : Form} (runs : f.Runs decrementCompare) (s : State) :
    f.Listed ∧ f.Modifies s [] [.C, .Z, .N] fun m r t => r.toNat = (m.toNat + 255) % 256 ∧ Compared s.a r t := by
  refine Form.Runs.modifies (g := fun r u => u.withP (cmpCore u.a r u.p)) runs
    (fun m p => otherFlags_mono (setNZ_otherFlags (m - 1) p) (by decide))
    (fun r u => withP_computes (cmpCore_otherFlags u.a r u.p)) fun m t keeps _ => ?_
  have a : t.a = s.a := keeps.otherRegs .a List.not_mem_nil
  rw [← a]
  exact ⟨byte_sub_one_toNat m, compared_of_cmpCore rfl⟩

/-- ISB's subtraction borrows by the Carry from before: INC leaves it. -/
theorem incCore_carry (m p : Byte) : getFlag .C (incCore m p).2 = getFlag .C p :=
  setNZ_otherFlags (m + 1) p .C (by decide)

/-- The flags of the subtraction cover those of the increment. -/
theorem Form.Runs.incrementsAndSubtracts {f : Form} (runs : f.Runs incrementSubtract) (s : State) :
    f.Listed ∧ f.Modifies s [.a] [.C, .Z, .V, .N] fun m r t =>
      r.toNat = (m.toNat + 1) % 256 ∧ Subtracted s.a r (getFlag .C s.p) t := by
  refine Form.Runs.composes runs (fun m p => otherFlags_mono (setNZ_otherFlags (m + 1) p) (by decide))
    sbcCore_otherFlags fun m t result flags => ⟨byte_add_one_toNat m, ?_⟩
  rw [← incCore_carry m s.p]
  exact subtracted_of_sbcCore result flags

/-- Settles O37: DCP is the decrement, then the comparison of A with the byte written; ISB the increment, then the
subtraction, with the Carry that the increment left. -/
theorem dcpAndIsbModifyThenUseA : Obligations.DcpAndIsbModifyThenUseA := by
  intro s b w
  obtain ⟨isb, -⟩ := addingCompositeForms_run b w
  exact ⟨fun f hf => (dcpForms_run b w f hf).decrementsAndCompares s,
    fun f hf => (isb f hf).incrementsAndSubtracts s⟩

/-! ### SLO, RLA, SRE and RRA (46 R295 to R298) -/

/-- The forms of SLO, RLA and SRE: the table, the encoder and exec, each at the form's constructor. -/
theorem shiftCompositeForms_run (b : Byte) (w : Word) :
    (∀ f ∈ sloForms b w, f.Runs shiftLeftOr) ∧ (∀ f ∈ rlaForms b w, f.Runs rotateLeftAnd) ∧
    ∀ f ∈ sreForms b w, f.Runs shiftRightXor := by
  refine ⟨fun f hf => ?_, fun f hf => ?_, fun f hf => ?_⟩ <;> fin_cases hf
  all_goals exact ⟨Form.listed_of_row rfl rfl rfl, rfl, fun _ => rfl⟩

/-- The Carry that a composite's second operation finds. -/
theorem Shift.coreNZ_carry (q : Shift) (v p : Byte) : getFlag .C (withNZ q.core v p).2 = q.out v.toNat := by
  rw [withNZ, setNZ_otherFlags _ _ _ (by decide), q.core_flags, getFlag_setFlag, if_pos rfl]

/-- A shift composed with a bitwise operation on A: Carry is the shift's, Z and N follow A. -/
theorem Form.Runs.shiftsAndCombines {f : Form} {q : Shift} {op : Byte → Byte → Byte}
    (runs : f.Runs (composite (withNZ q.core) fun a r p => (op a r, setNZ (op a r) p))) (s : State) :
    f.Listed ∧ f.Modifies s [.a] [.C, .Z, .N] fun m r t =>
      r.toNat = q.result m.toNat (getFlag .C s.p) ∧ getFlag .C t.p = q.out m.toNat ∧ t.a = op s.a r ∧ NZ t.a t := by
  refine runs.composes q.coreNZ_otherFlags (fun a r p => otherFlags_mono (setNZ_otherFlags (op a r) p) (by decide))
    fun m t result flags => ⟨q.core_toNat m s.p, ?carry, result, ?nz⟩
  case carry => rw [flags, setNZ_otherFlags _ _ _ (by decide), q.coreNZ_carry]
  case nz =>
    rw [result]
    exact nz_of_p_eq flags

/-- Settles O38: each composite is its shift, then a bitwise operation on A that keeps the shift's Carry. -/
theorem shiftCompositesUpdateA : Obligations.ShiftCompositesUpdateA := by
  intro s b w
  obtain ⟨slo, rla, sre⟩ := shiftCompositeForms_run b w
  exact ⟨fun f hf => Form.Runs.shiftsAndCombines (q := .asl) (slo f hf) s,
    fun f hf => Form.Runs.shiftsAndCombines (q := .rol) (rla f hf) s,
    fun f hf => Form.Runs.shiftsAndCombines (q := .lsr) (sre f hf) s⟩

/-- The adder's carry in is the Carry that the rotation left. -/
theorem Form.Runs.rotatesRightAndAdds {f : Form} (runs : f.Runs rotateRightAdd) (s : State) :
    f.Listed ∧ f.Modifies s [.a] [.C, .Z, .V, .N] fun m r t =>
      r.toNat = Shift.ror.result m.toNat (getFlag .C s.p) ∧ Added s.a r (decide (m.toNat % 2 = 1)) t := by
  refine Form.Runs.composes runs (fun m p => otherFlags_mono (Shift.ror.coreNZ_otherFlags m p) (by decide))
    adcCore_otherFlags fun m t result flags => ⟨Shift.ror.core_toNat m s.p, ?_⟩
  have carry : getFlag .C (withNZ rorCore m s.p).2 = decide (m.toNat % 2 = 1) := Shift.ror.coreNZ_carry m s.p
  rw [← carry]
  exact added_of_adcCore result flags

/-- Settles O39: every form is the rotation, then the adder on A, the byte written and the Carry of the rotation. -/
theorem rraAddsWithTheShiftedOutBit : Obligations.RraAddsWithTheShiftedOutBit := by
  intro s b w f hf
  obtain ⟨-, rra⟩ := addingCompositeForms_run b w
  exact (rra f hf).rotatesRightAndAdds s

end Sys2Proof.Machine

namespace Sys2Proof.Machine

/-! ### The unsupported instructions (47 R310 to R322) -/

/-- The stop of an unsupported instruction: the fault it answers, and the one field it writes (R310, 60 R331). -/
theorem unsupported_eq (op : Byte) (s : State) :
    unsupported op s = .fault (.unsupportedInstruction op (s.pc - 1)
      { s with status := .faulted (.unsupportedInstruction op (s.pc - 1)) }) := rfl

/-- A form of an unsupported instruction: listed, and executed as the stop at its own opcode byte. -/
structure Form.Stops (f : Form) : Prop where
  listed  : f.Listed
  meaning : ∀ s, exec f.i s = unsupported f.op s

/-- The forms of the unsupported instructions other than JAM (R311 to R321): the table, the encoder and exec, each at
the form's constructor. -/
theorem unsupportedOperandForms_stop (b : Byte) (w : Word) :
    ∀ f ∈ ancForms b ++ arrForms b ++ asrForms b ++ lxaForms b ++ shaForms b w ++ sbxForms b ++ laeForms w ++
      shxForms w ++ shyForms w ++ aneForms b ++ shsForms w, f.Stops := by
  intro f hf
  fin_cases hf
  all_goals exact ⟨Form.listed_of_row rfl rfl rfl, fun _ => rfl⟩

/-- The twelve JAM bytes, which carry no operand (R322). -/
theorem jamForms_stop : ∀ f ∈ jamForms, f.Stops := by
  intro f hf
  fin_cases hf
  all_goals exact ⟨Form.listed_of_row rfl rfl rfl, fun _ => rfl⟩

/-- Settles O40: every form, JAM's among them, stops at its own opcode byte, and the stop reads no operand. -/
theorem unsupportedInstructionsFault : Obligations.UnsupportedInstructionsFault := by
  intro s b w f hf
  have stops : f.Stops := (List.mem_append.mp hf).elim (unsupportedOperandForms_stop b w f) (jamForms_stop f)
  exact ⟨stops.listed, (stops.meaning s).trans (unsupported_eq f.op s)⟩

end Sys2Proof.Machine

namespace Sys2Proof.Machine

/-! ### The outcomes of an iteration (60 R330 to R332) -/

/-- Settles O6: an instruction that completes leaves the status as it was; the stop of an unsupported one writes the
status alone, on the machine the fetch leaves, one past the opcode's address. -/
theorem stepCompletesOrFaultsUnsupported : Obligations.StepCompletesOrFaultsUnsupported := by
  intro s running
  obtain ⟨i, d, u, -, touched, ⟨v, -, -, completes⟩ | ⟨op, -, stops⟩⟩ := step_cases running
  · exact .inl ⟨finish d v, completes, (step_kept completes).status.trans running⟩
  · have pc : u.pc - 1 + 1 = u.pc := sub_add_cancel u.pc 1
    exact .inr ⟨op, u.pc - 1, _, stops.trans (unsupported_eq op u), rfl, pc.symm, (touched.keeps [] []).cycles⟩

/-- The stop of an unsupported instruction is not the resolver's. -/
theorem unsupported_ne_resolverContract (op : Byte) (s t : State) (m : Mode) (opaddr : Word) :
    unsupported op s ≠ .fault (.resolverContract m opaddr t) := by
  rw [unsupported_eq]
  nofun

theorem exec_ne_resolverContract (i : Instr) (s t : State) (m : Mode) (opaddr : Word) :
    exec i s ≠ .fault (.resolverContract m opaddr t) := by
  rcases exec_completes i s with ⟨v, completes, -⟩ | ⟨op, stops⟩
  · rw [completes]
    nofun
  · rw [stops]
    exact unsupported_ne_resolverContract op s t m opaddr

/-- Settles O8: an instruction completes or is the unsupported one of an opcode byte, and so is the iteration. -/
theorem resolverContractNeverRaised : Obligations.ResolverContractNeverRaised := by
  refine ⟨fun s => ⟨rfl, rfl, rfl⟩, fun i s m opaddr t => exec_ne_resolverContract i s t m opaddr, ?step⟩
  intro s m opaddr t running
  obtain ⟨i, d, u, -, -, ⟨v, -, -, completes⟩ | ⟨op, -, stops⟩⟩ := step_cases running
  · rw [completes]
    nofun
  · rw [stops]
    exact unsupported_ne_resolverContract op u t m opaddr

end Sys2Proof.Machine

namespace Sys2Proof.Machine

/-! ### Reset (70 R360) -/

/-- reset(), all of it: the pattern, and pc as the reset vector has it under the bank registers as they stand. -/
theorem hostReset_eq (s : State) :
    hostReset s =
      { s with
        a := 0x00, x := 0x00, y := 0x00, sp := 0xFD, p := 0x24, pc := vectorTarget s 0xFFFC, status := .running,
        extra := 0, nmiPending := false, irqPending := false } := by
  have vector (t : State) : memRead16 Params.resetVector t = (vectorTarget t 0xFFFC, t) :=
    memRead16_high (by decide) (by decide) t
  simp only [hostReset, vector]
  rfl

/-- Settles O13: each field, as the equation of reset has it. -/
theorem hostResetSetsThePattern : Obligations.HostResetSetsThePattern := by
  intro s
  rw [hostReset_eq]
  exact ⟨rfl, rfl, rfl, rfl, rfl, rfl, rfl, rfl, rfl, rfl, rfl, rfl, rfl, rfl, rfl, rfl, rfl⟩

/-! ### Power-on (R361, R362, 20_memory.md R91) -/

/-- The PRG lengths that 70 R362 allows a mapper number. -/
def LegalPrgLen (n len : Nat) : Prop :=
  (n = 0 → len = 16384 ∨ len = 32768) ∧ (n = 1 ∨ n = 10 → 0 < len ∧ len % 16384 = 0) ∧
  (n = 9 → 0 < len ∧ len % 8192 = 0)

/-- The CHR lengths that 70 R362 allows a mapper number. -/
def LegalChrLen (n : Nat) (isRam : Bool) (len : Nat) : Prop :=
  (isRam = true → len = 8192) ∧ (isRam = false → 0 < len) ∧ (isRam = false → n = 0 ∨ n = 1 → len % 8192 = 0) ∧
  (isRam = false → n = 9 ∨ n = 10 → len % 4096 = 0)

/-- A mapper bank as the constructor of a mapper number leaves it: the registers of 10_state.md R36, and the lengths of
R362 in the loader's check. -/
structure LoadsAs (n : Nat) (m : Mapper) : Prop where
  constructed : mapperAtLoad n = some m
  registers   : m.AtLoad n
  prg         : ∀ len, prgLenOk m len = true ↔ LegalPrgLen n len
  chr         : ∀ isRam len, chrLenOk m isRam len = true ↔ LegalChrLen n isRam len

/-- Each of the four numbers has its variant (R361). -/
theorem exists_loadsAs {n : Nat} (h : n = 0 ∨ n = 1 ∨ n = 9 ∨ n = 10) : ∃ m, LoadsAs n m := by
  rcases h with rfl | rfl | rfl | rfl
  all_goals
    refine ⟨_, rfl, ?registers, fun len => ?prg, fun isRam len => ?chr⟩
    case registers => simp only [Mapper.AtLoad, LatchRegs.AtLoad, and_self]
    case prg => simp [prgLenOk, LegalPrgLen]
    case chr => cases isRam <;> simp [chrLenOk, LegalChrLen]

theorem mapperAtLoad_eq_none {n : Nat} (h0 : n ≠ 0) (h1 : n ≠ 1) (h9 : n ≠ 9) (h10 : n ≠ 10) :
    mapperAtLoad n = none := by
  unfold mapperAtLoad
  split
  · exact absurd rfl h0
  · exact absurd rfl h1
  · exact absurd rfl h9
  · exact absurd rfl h10
  · rfl

theorem headerMirroringOk_iff (h : Mirroring) : headerMirroringOk h = true ↔ h = .vertical ∨ h = .horizontal := by
  cases h <;> decide

/-- The loader's check of a cartridge is its legality for the number of the variant (R362). -/
theorem LoadsAs.cartridgeOk_iff {n : Nat} {m : Mapper} (h : LoadsAs n m) (c : Cartridge) :
    cartridgeOk m c = true ↔ LegalCartridge n c := by
  simp only [cartridgeOk, Bool.and_eq_true, decide_eq_true_eq, headerMirroringOk_iff, h.prg, h.chr, LegalPrgLen,
    LegalChrLen, LegalCartridge, and_assoc]

theorem powerOn_unknown {n : Nat} (h : mapperAtLoad n = none) (c : Cartridge) (ram : Memory) :
    powerOn n c ram = .refused (.unknownMapper n) := by
  simp only [powerOn, h]

theorem LoadsAs.check_iff {n : Nat} {m : Mapper} (h : LoadsAs n m) (c : Cartridge) (ram : Memory) :
    (cartridgeOk m c && decide (Memory.wf 2048 ram)) = true ↔ LegalCartridge n c ∧ Memory.wf 2048 ram := by
  rw [Bool.and_eq_true, h.cartridgeOk_iff, decide_eq_true_eq]

/-- A legal cartridge is loaded, with RAM contents in canonical form, and the machine reset (R361). -/
theorem LoadsAs.powerOn_accepts {n : Nat} {m : Mapper} {c : Cartridge} {ram : Memory} (h : LoadsAs n m)
    (legal : LegalCartridge n c) (canonical : Memory.wf 2048 ram) :
    powerOn n c ram = .next (hostReset { State.reset with mapper := m, cart := c, ram := ram }) := by
  simp only [powerOn, h.constructed]
  exact if_pos ((h.check_iff c ram).2 ⟨legal, canonical⟩)

theorem LoadsAs.powerOn_refuses {n : Nat} {m : Mapper} {c : Cartridge} {ram : Memory} (h : LoadsAs n m)
    (illegal : ¬(LegalCartridge n c ∧ Memory.wf 2048 ram)) : powerOn n c ram = .refused .malformedCartridge := by
  simp only [powerOn, h.constructed]
  exact if_neg (mt (h.check_iff c ram).1 illegal)

/-- Settles O14: the loader's check is the legality of the cartridge, and what it accepts is reset. -/
theorem powerOnLoadsOrRefuses : Obligations.PowerOnLoadsOrRefuses := by
  intro n c ram
  refine ⟨fun h0 h1 h9 h10 => powerOn_unknown (mapperAtLoad_eq_none h0 h1 h9 h10) c ram, fun known => ?_⟩
  obtain ⟨m, loads⟩ := exists_loadsAs known
  refine ⟨loads.powerOn_refuses, fun legal canonical => ⟨_, loads.powerOn_accepts legal canonical, ?_⟩⟩
  rw [hostReset_eq]
  have bitFive : getFlag .U 0x24 = true := rfl
  exact ⟨⟨rfl, bitFive, canonical, (loads.cartridgeOk_iff c).2 legal⟩, loads.registers, rfl, rfl, rfl, rfl, rfl, rfl,
    rfl, rfl, rfl, rfl, rfl, rfl, rfl⟩

end Sys2Proof.Machine

namespace Sys2Proof.Machine

/-! ### Interrupt entries (60 R334 to R338) -/

/-- The machine an interrupt's entry leaves: the frame pushed, two cycles ticked, P written, pc at the vector's
address. -/
def enterInterrupt (status p : Byte) (vector : Word) (s : State) : State :=
  tick 2 (goTo (vectorTarget s vector) 0 ((pushFrame s.pc status s).withP p))

/-- A tick neither reads nor writes P and pc. -/
theorem tick_goTo_withP (n : Nat) (pc : Word) (p : Byte) (s : State) :
    tick n (goTo pc 0 (s.withP p)) = goTo pc 0 ((tick n s).withP p) := by
  unfold tick nextTickInput goTo State.withP
  dsimp only
  split <;> rfl

theorem nmiEntry_eq_enterInterrupt (s : State) :
    nmiEntry s = enterInterrupt (nmiByte s.p) (setFlag .I true s.p) 0xFFFA { s with nmiPending := false } := by
  rw [nmiEntry_eq, enterInterrupt, tick_goTo_withP]
  generalize tick 2 (pushFrame s.pc (nmiByte s.p) { s with nmiPending := false }) = t
  rfl

theorem irqEntry_eq_enterInterrupt (s : State) :
    irqEntry s = enterInterrupt s.p (brkP s.p) 0xFFFE s := by
  rw [irqEntry_eq, enterInterrupt, pushFrame_eq]
  rfl

/-- What an interrupt's entry leaves, on a machine with no NMI pending. -/
structure EntersInterrupt (status p : Byte) (vector : Word) (s t : State) : Prop where
  frame      : FramePushed s.pc status s t
  p          : t.p = p
  pc         : t.pc = vectorTarget s vector
  a          : t.a = s.a
  x          : t.x = s.x
  y          : t.y = s.y
  status     : t.status = s.status
  extra      : t.extra = s.extra
  cart       : t.cart = s.cart
  devAnswers : t.devAnswers = s.devAnswers
  cycles     : t.cycles = s.cycles + 2
  events     : t.events = .tick 2 :: s.events
  banks      : ∀ len a, prgOffset t.mapper len a = prgOffset s.mapper len a
  inputs     : ∀ i rest, s.tickInputs = i :: rest →
    t.nmiPending = i.raiseNmi ∧ t.irqPending = i.irqLevel ∧ t.tickInputs = rest

theorem enterInterrupt_enters (status p : Byte) (vector : Word) {s : State} (nmi : s.nmiPending = false) :
    EntersInterrupt status p vector s (enterInterrupt status p vector s) := by
  have frame := pushFrame_framePushed s.pc status s
  have mapper := pushFrame_mapper s.pc status s
  obtain ⟨extra, answers, -, events⟩ := pushFrame_sameRecord s.pc status s
  have keeps := pushFrame_keeps s.pc status s
  rw [enterInterrupt]
  -- Only these facts of the pushed machine matter from here on.
  generalize pushFrame s.pc status s = t at frame mapper extra answers events keeps ⊢
  have register (r : Reg) (other : r ∉ [Reg.sp]) := keeps.otherRegs r other
  exact {
    frame := by
      rw [FramePushed, tick_sp, tick_ram]
      exact frame
    p := tick_p 2 _
    pc := tick_pc 2 _
    a := (tick_a 2 _).trans (register .a (by decide))
    x := (tick_x 2 _).trans (register .x (by decide))
    y := (tick_y 2 _).trans (register .y (by decide))
    status := (tick_status 2 _).trans keeps.status
    extra := (tick_extra 2 _).trans extra
    cart := (tick_cart 2 _).trans keeps.cart
    devAnswers := (tick_devAnswers 2 _).trans answers
    cycles := (tick_cycles 2 _).trans (congrArg (· + 2) keeps.cycles)
    events := (tick_events 2 _).trans (congrArg _ events)
    banks := fun len a => (prgOffset_tick 2 _ len a).trans (congrArg (prgOffset · len a) mapper)
    inputs := fun i rest stated => by
      have coming : (goTo (vectorTarget s vector) 0 (t.withP p)).tickInputs = i :: rest := keeps.tickInputs.trans stated
      rw [tick_stated coming]
      exact ⟨(congrArg (· || i.raiseNmi) (keeps.nmiPending.trans nmi)).trans (Bool.false_or _), rfl, rfl⟩ }

theorem pollInterrupts_of_nmi {s : State} (nmi : s.nmiPending = true) : pollInterrupts s = nmiEntry s :=
  if_pos nmi

/-- With no NMI pending, a poll does nothing where no IRQ is pending. -/
theorem pollInterrupts_of_noIrq {s : State} (nmi : s.nmiPending = false) (irq : s.irqPending = false) :
    pollInterrupts s = s := by
  simp [pollInterrupts, nmi, irq]

theorem pollInterrupts_enters_nmi {s : State} (nmi : s.nmiPending = true) :
    EntersInterrupt (nmiByte s.p) (setFlag .I true s.p) 0xFFFA { s with nmiPending := false } (pollInterrupts s) := by
  rw [pollInterrupts_of_nmi nmi, nmiEntry_eq_enterInterrupt]
  exact enterInterrupt_enters _ _ _ rfl

theorem pollInterrupts_enters_irq {s : State} (nmi : s.nmiPending = false) (irq : s.irqPending = true)
    (clear : getFlag .I s.p = false) : EntersInterrupt s.p (brkP s.p) 0xFFFE s (pollInterrupts s) := by
  rw [pollInterrupts_of_irq nmi irq clear, irqEntry_eq_enterInterrupt]
  exact enterInterrupt_enters _ _ _ nmi

/-- Settles O55: the entry, with the flags of the byte pushed and of P. -/
theorem nmiIsTakenWhateverIIs : Obligations.NmiIsTakenWhateverIIs := by
  intro s nmi
  have entry := pollInterrupts_enters_nmi nmi
  exact ⟨pollInterrupts s, nmiByte s.p, rfl, entry.frame, fun f => getFlag_nmiByte f s.p,
    fun f => entry.p ▸ getFlag_setFlag f .I true s.p, entry.pc, entry.a, entry.x, entry.y, entry.status, entry.extra,
    entry.cart, entry.devAnswers, entry.cycles, entry.events, entry.banks, entry.inputs⟩

/-- Settles O56: the poll does nothing, or it is the entry, with the flags of P. -/
theorem irqIsTakenOnlyWhenIIsClear : Obligations.IrqIsTakenOnlyWhenIIsClear := by
  intro s nmi
  refine ⟨fun idle => idle.elim (pollInterrupts_of_noIrq nmi) (pollInterrupts_of_masked nmi), fun irq clear => ?_⟩
  have entry := pollInterrupts_enters_irq nmi irq clear
  refine ⟨pollInterrupts s, rfl, entry.frame, fun f => ?flags, entry.pc, entry.a, entry.x, entry.y, entry.status,
    entry.extra, entry.cart, entry.devAnswers, entry.cycles, entry.events, entry.banks, entry.inputs⟩
  case flags => rw [entry.p, getFlag_brkP, ite_or]

/-! ### Return (R340, 45 R283) -/

@[simp] theorem tickSome_a (n : Option Nat) (s : State) : (tickSome n s).a = s.a := by
  cases n <;> simp [tickSome]
@[simp] theorem tickSome_x (n : Option Nat) (s : State) : (tickSome n s).x = s.x := by
  cases n <;> simp [tickSome]
@[simp] theorem tickSome_y (n : Option Nat) (s : State) : (tickSome n s).y = s.y := by
  cases n <;> simp [tickSome]
@[simp] theorem tickSome_sp (n : Option Nat) (s : State) : (tickSome n s).sp = s.sp := by
  cases n <;> simp [tickSome]
@[simp] theorem tickSome_ram (n : Option Nat) (s : State) : (tickSome n s).ram = s.ram := by
  cases n <;> simp [tickSome]

/-- Every entry leaves its frame on the stack: neither the vector's reads nor a tick touches it. -/
theorem takeException_frame (e : Entry) (s : State) :
    FramePushed e.returnTo e.pushedStatus s (takeException e s) := by
  have ram : (takeException e s).ram = (pushFrame e.returnTo e.pushedStatus s).ram := by
    simp [takeException, pushFrame]
  have sp : (takeException e s).sp = (pushFrame e.returnTo e.pushedStatus s).sp := by
    simp [takeException, pushFrame]
  rw [FramePushed, ram, sp]
  exact pushFrame_framePushed e.returnTo e.pushedStatus s

theorem takeException_axy (e : Entry) (s : State) :
    (takeException e s).a = s.a ∧ (takeException e s).x = s.x ∧ (takeException e s).y = s.y := by
  simp [takeException, push16, push]

/-- A return takes a frame back: pc is the address pushed, SP as before the entry, P the byte pushed with Break cleared
and bit 5 set. -/
theorem returnFromException_of_frame {ret : Word} {status : Byte} {s u : State} (frame : FramePushed ret status s u) :
    returnFromException u = { u with pc := ret, sp := s.sp, p := pulledP status } := by
  obtain ⟨sp, ram⟩ := frame
  have one : s.sp - 3 + 1 = s.sp - 2 := by bv_omega
  have two : s.sp - 2 + 1 = s.sp - 1 := by bv_omega
  have three : s.sp - 1 + 1 = s.sp := by bv_omega
  -- The three slots of the frame are three bytes.
  have lowSlot : 256 + (s.sp - 1).toNat ≠ 256 + (s.sp - 2).toNat := by bv_omega
  have highSlot : 256 + s.sp.toNat ≠ 256 + (s.sp - 2).toNat ∧ 256 + s.sp.toNat ≠ 256 + (s.sp - 1).toNat := by
    constructor <;> bv_omega
  simp only [returnFromException, pop_eq, pop16_eq, sp, one, two, three, ram, if_true, if_neg lowSlot,
    if_neg highSlot.1, if_neg highSlot.2, wordOf_hi_lo]

theorem rti_takeException (e : Entry) (s : State) :
    exec .rti (takeException e s) =
      .next { takeException e s with pc := e.returnTo, sp := s.sp, p := pulledP e.pushedStatus } :=
  congrArg Host.Outcome.next (returnFromException_of_frame (takeException_frame e s))

/-- Where the byte pushed is P but for Break and bit 5, the return gives back the other flags. -/
theorem getFlag_pulledP_of_pushed {status p : Byte}
    (pushed : ∀ f, f ≠ .B → f ≠ .U → getFlag f status = getFlag f p) (f : Flag) (notB : f ≠ .B) (notU : f ≠ .U) :
    getFlag f (pulledP status) = getFlag f p := by
  rw [getFlag_pulledP, if_neg notB, if_neg notU, pushed f notB notU]

theorem getFlag_nmiByte_other (p : Byte) (f : Flag) (notB : f ≠ .B) (notU : f ≠ .U) :
    getFlag f (nmiByte p) = getFlag f p := by
  rw [getFlag_nmiByte, if_neg notB, if_neg notU]

/-- Settles O57: the return takes back the frame that the entry left, whichever entry it was. -/
theorem rtiUndoesAnEntry : Obligations.RtiUndoesAnEntry := by
  refine ⟨fun e s => ?any, fun s u hu => ?interrupt, fun s => ?trap⟩
  case any =>
    obtain ⟨a, x, y⟩ := takeException_axy e s
    exact ⟨_, rti_takeException e s, rfl, rfl, a, x, y, fun f => getFlag_pulledP f e.pushedStatus⟩
  case interrupt =>
    fin_cases hu
    · exact ⟨_, rti_takeException (nmiEntryOf s) { s with nmiPending := false }, rfl, rfl,
        getFlag_pulledP_of_pushed (getFlag_nmiByte_other s.p)⟩
    · exact ⟨_, rti_takeException (irqEntryOf s) s, rfl, rfl, getFlag_pulledP_of_pushed fun _ _ _ => rfl⟩
  case trap =>
    exact ⟨brkEntry s, _, rfl, rti_takeException (brkEntryOf s) s, rfl, rfl,
      getFlag_pulledP_of_pushed fun _ _ _ => rfl⟩

end Sys2Proof.Machine

namespace Sys2Proof

/-! ### The row of a fetched instruction (30_encoding.md R120 to R125, 40 R153) -/

theorem Format.Encodes.head {op : Byte} {fmt : Format} {i : Instr} (h : fmt.Encodes op i) :
    (encode i).head? = some op := by
  cases h with
  | f1 bytes => rw [bytes]; rfl
  | f2 bytes v => rw [bytes]; rfl
  | f3 bytes w => rw [bytes]; rfl

/-- A row whose format encodes one instruction encodes whatever instruction the operand fetch makes of it. -/
theorem Format.Encodes.fetchOperand {op : Byte} {fmt : Format} {i : Instr} (h : fmt.Encodes op i) (s : Machine.State) :
    fmt.Encodes op (Machine.fetchOperand fmt s).1 := by
  cases h with
  | f1 bytes => exact .f1 bytes
  | f2 bytes _ => exact .f2 bytes _
  | f3 bytes _ => exact .f3 bytes _

/-- Every row of the table has an instruction that is encoded as its format has it (R128). -/
theorem exists_encodes_of_lookup {op : Byte} {d : Descriptor} {b : Build} (row : lookup op = some (d, b)) :
    ∃ i, b.format.Encodes op i := by
  obtain ⟨i, head⟩ := exists_encode_head op
  obtain ⟨op', d', b', head', row', h⟩ := encodes_row i
  obtain rfl : op' = op := Option.some.inj (head'.symm.trans head)
  obtain ⟨-, rfl⟩ : d' = d ∧ b' = b := by simpa [row'] using row
  exact ⟨i, h⟩

/-- The most that an instruction of a penalty class charges (40 R157). -/
def Penalty.most : Penalty → Nat
  | .none => 0
  | .page => 1
  | .branch => 2

end Sys2Proof

namespace Sys2Proof.Machine

/-- A fetched instruction comes with the row of its own opcode byte, on a machine that differs in pc, extra and the
record of the environment only, extra being reset unless the instruction stops at step 4 (R153 to R155). -/
theorem fetch_row {s u : State} {i : Instr} {d : Descriptor} (h : fetch s = .instr i d u) :
    ∃ op b, (encode i).head? = some op ∧ lookup op = some (d, b) ∧ Touched { s with pc := s.pc + 1 } u ∧
      (d.mnemonic.unsupported = false → u.extra = 0) := by
  obtain ⟨d', b, u', row, fetched, touched, extra⟩ := fetch_cases s
  obtain ⟨rfl, rfl, rfl⟩ := Fetched.instr.inj (h.symm.trans fetched)
  obtain ⟨j, encodes⟩ := exists_encodes_of_lookup row
  exact ⟨_, b, (encodes.fetchOperand _).head, row, touched, extra⟩

/-! ### The charge of an instruction (40 R157) -/

theorem indexed_extra_le (base : Word) (index : Byte) (s : State) : (indexed base index s).2.extra ≤ s.extra + 1 := by
  rw [indexed_eq]
  dsimp only
  split <;> omega

theorem pagePointer_extra (ptr : Word) (s : State) : (pagePointer ptr s).2.extra = s.extra :=
  (memRead_extra _ _).trans (memRead_extra ptr s)

theorem zeroPagePointer_state (p : Byte) (s : State) : (zeroPagePointer p s).2 = s := by
  rw [zeroPagePointer_eq]

/-- The resolver charges at most one page crossing (R166, R167, R170). -/
theorem resolve_extra_le {o : Operand} {s : State} {r : Word × State} (h : resolve o s = .ok r) :
    r.2.extra ≤ s.extra + 1 := by
  cases o with
  | accumulator | implied | noneAddressing => cases h
  | absoluteX _ | absoluteY _ => cases h; exact indexed_extra_le _ _ s
  | indirectY b =>
    cases h
    rw [zeroPagePointer_state]
    exact indexed_extra_le _ _ s
  | indirect w =>
    cases h
    rw [pagePointer_extra]
    exact Nat.le_succ _
  | indirectX b =>
    cases h
    rw [zeroPagePointer_state]
    exact Nat.le_succ _
  | immediate _ | zeroPage _ | zeroPageX _ | zeroPageY _ | absolute _ | relative _ => cases h; exact Nat.le_succ _

/-- The operand read charges what the resolver does. -/
theorem readOperand_extra_le {o : Operand} {s : State} {r : Byte × State} (h : readOperand o s = .ok r) :
    r.2.extra ≤ s.extra + 1 := by
  unfold readOperand at h
  split at h
  case h_1 => cases h; exact Nat.le_succ _
  case h_2 =>
    split at h
    case h_1 resolved =>
      obtain rfl := Except.ok.inj h
      rw [memRead_extra]
      exact resolve_extra_le resolved
    case h_2 => cases h

/-- The machine after an operand read: as it was on the modes that have none. -/
def afterOperandRead (o : Operand) (s : State) : State :=
  match readOperand o s with
  | .ok r => r.2
  | .error _ => s

theorem afterOperandRead_extra_le (o : Operand) (s : State) : (afterOperandRead o s).extra ≤ s.extra + 1 := by
  unfold afterOperandRead
  split
  case h_1 r read => exact readOperand_extra_le read
  case h_2 => exact Nat.le_succ _

/-- A branch charges one cycle when it is taken, and one more for the page (44 R250). -/
theorem branch_extra_le {cond : State → Bool} {d : Byte} {s t : State}
    (completes : branch cond (.relative d) s = .next t) : t.extra ≤ s.extra + 2 := by
  obtain ⟨pc, charge, goes, -, extra⟩ := branch_goes cond d s
  rw [goes] at completes
  cases completes
  rw [extra]
  split_ifs <;> omega

/-- What step 8 makes of the charge of an instruction that was fetched with its row, extra having been reset. -/
def ChargesByClass (i : Instr) : Prop :=
  ∃ op d b, (encode i).head? = some op ∧ lookup op = some (d, b) ∧
    ∀ s t : State, (d.mnemonic.unsupported = false → s.extra = 0) → exec i s = .next t →
      applyPenalty d.penalty t.extra ≤ d.penalty.most

theorem applyPenalty_le (c : Penalty) (extra : Nat) : applyPenalty c extra ≤ extra := by
  cases c with
  | none => exact Nat.zero_le extra
  | page | branch => exact Nat.le_refl extra

/-- An instruction that adds no more to extra than its row's class allows. -/
theorem ChargesByClass.of_charge {i : Instr} {op : Byte} {d : Descriptor} {b : Build}
    (head : (encode i).head? = some op) (row : lookup op = some (d, b)) (supported : d.mnemonic.unsupported = false)
    (charge : ∀ s t, exec i s = .next t → t.extra ≤ s.extra + d.penalty.most) : ChargesByClass i := by
  refine ⟨op, d, b, head, row, fun s t reset completes => (applyPenalty_le d.penalty t.extra).trans ?_⟩
  have bound := charge s t completes
  rw [reset supported, Nat.zero_add] at bound
  exact bound

/-- An instruction of class Page that completes with the extra cycles of its operand read. -/
theorem ChargesByClass.of_read {i : Instr} {op : Byte} {d : Descriptor} {b : Build} (o : Operand)
    (head : (encode i).head? = some op) (row : lookup op = some (d, b)) (supported : d.mnemonic.unsupported = false)
    (page : d.penalty = .page) (reads : ∀ s, ∃ t, exec i s = .next t ∧ t.extra = (afterOperandRead o s).extra) :
    ChargesByClass i := by
  refine .of_charge head row supported fun s t completes => ?_
  obtain ⟨t', completes', extra⟩ := reads s
  obtain rfl := Host.Outcome.next.inj (completes'.symm.trans completes)
  rw [extra, page]
  exact afterOperandRead_extra_le o s

/-- No instruction charges more than its row's class says: those of class Page read their operand in an indexed mode, or
stop (LAE); those of class Branch are the branches. -/
theorem chargesByClass (i : Instr) : ChargesByClass i := by
  cases i with
  | ldaAbsX w | ldyAbsX w | adcAbsX w | sbcAbsX w | andAbsX w | oraAbsX w | eorAbsX w | cmpAbsX w
  | nopAbsX1C w | nopAbsX3C w | nopAbsX5C w | nopAbsX7C w | nopAbsXDC w | nopAbsXFC w =>
    exact .of_read (.absoluteX w) rfl rfl rfl rfl fun _ => ⟨_, rfl, rfl⟩
  | ldaAbsY w | ldxAbsY w | laxAbsY w | adcAbsY w | sbcAbsY w | andAbsY w | oraAbsY w | eorAbsY w | cmpAbsY w =>
    exact .of_read (.absoluteY w) rfl rfl rfl rfl fun _ => ⟨_, rfl, rfl⟩
  | ldaIndY v | laxIndY v | adcIndY v | sbcIndY v | andIndY v | oraIndY v | eorIndY v | cmpIndY v =>
    exact .of_read (.indirectY v) rfl rfl rfl rfl fun _ => ⟨_, rfl, rfl⟩
  | bpl d | bmi d | bvc d | bvs d | bcc d | bcs d | bne d | beq d =>
    refine .of_charge rfl rfl rfl fun s t completes => ?_
    rw [exec] at completes
    exact branch_extra_le completes
  | laeAbsY w => exact ⟨_, _, _, rfl, rfl, fun s t _ completes => absurd completes (unsupported_ne_next _ s t)⟩
  -- The other rows are of class None.
  | _ => exact ⟨_, _, _, rfl, rfl, fun _ _ _ _ => Nat.le_refl 0⟩

/-- What step 8 makes of the charge of a fetched instruction (R157). -/
theorem applyPenalty_le_most {s u v : State} {i : Instr} {d : Descriptor} (fetched : fetch s = .instr i d u)
    (completes : exec i u = .next v) : applyPenalty d.penalty v.extra ≤ d.penalty.most := by
  obtain ⟨op, b, head, row, -, reset⟩ := fetch_row fetched
  obtain ⟨op', d', b', head', row', charge⟩ := chargesByClass i
  obtain rfl : op' = op := Option.some.inj (head'.symm.trans head)
  obtain ⟨rfl, -⟩ := Prod.mk.inj (Option.some.inj (row'.symm.trans row))
  exact charge u v reset completes

/-! ### The charge of an iteration (70 R368, R369) -/

/-- The cycles that an entry at the polls charges (R369). -/
def entryTicks (s : State) : Nat :=
  if s.nmiPending = true ∨ s.irqPending = true ∧ getFlag .I s.p = false then 2 else 0

/-- The polls tick for an entry, and once. -/
theorem pollInterrupts_ticks (s : State) :
    (pollInterrupts s).cycles = s.cycles + entryTicks s ∧
    (pollInterrupts s).events = if entryTicks s = 2 then .tick 2 :: s.events else s.events := by
  unfold entryTicks
  cases nmi : s.nmiPending with
  | true =>
    have entry := pollInterrupts_enters_nmi nmi
    exact ⟨entry.cycles, entry.events⟩
  | false =>
    cases irq : s.irqPending with
    | false =>
      rw [pollInterrupts_of_noIrq nmi irq]
      exact ⟨rfl, rfl⟩
    | true =>
      cases masked : getFlag .I s.p with
      | true =>
        rw [pollInterrupts_of_masked nmi masked]
        exact ⟨rfl, rfl⟩
      | false =>
        have entry := pollInterrupts_enters_irq nmi irq masked
        exact ⟨entry.cycles, entry.events⟩

theorem step_eq_finish {s u v : State} {i : Instr} {d : Descriptor} (running : s.status = .running)
    (fetched : fetch (pollInterrupts s) = .instr i d u) (completes : exec i u = .next v) :
    step s = .next (finish d v) := by
  rw [step_running running, fetched]
  simp only [runFetched, completes, afterExec]

theorem exec_cycles {i : Instr} {u v : State} (completes : exec i u = .next v) : v.cycles = u.cycles := by
  rcases exec_completes i u with ⟨v', completes', effect⟩ | ⟨op, stops⟩
  · obtain rfl := Host.Outcome.next.inj (completes'.symm.trans completes)
    exact effect.cycles
  · exact absurd (stops.symm.trans completes) (unsupported_ne_next op u v)

/-- Settles O9: the polls tick for an entry, the instruction does not tick, and the tick that ends the iteration charges
the base cycles and what step 8 leaves of extra. -/
theorem cyclesOfAnIteration : Obligations.CyclesOfAnIteration := by
  intro s i d u v t running fetched completes next
  obtain rfl := Host.Outcome.next.inj ((step_eq_finish running fetched completes).symm.trans next)
  obtain ⟨pollCycles, pollEvents⟩ := pollInterrupts_ticks s
  obtain ⟨-, -, -, -, touched, -⟩ := fetch_row fetched
  have cycles : v.cycles = s.cycles + entryTicks s :=
    (exec_cycles completes).trans ((touched.keeps [] []).cycles.trans pollCycles)
  have charge := applyPenalty_le_most fetched completes
  refine ⟨entryTicks s, applyPenalty d.penalty v.extra, rfl, pollCycles, pollEvents, ?total, tick_events _ _,
    fun none => ?none, fun page => ?page, fun branch => ?branch⟩
  case total => rw [← cycles, Nat.add_assoc]; exact tick_cycles _ _
  case none => rw [none]; rfl
  case page => rw [page] at charge ⊢; exact ⟨charge, rfl⟩
  case branch => rw [branch] at charge ⊢; exact ⟨charge, rfl⟩

end Sys2Proof.Machine
